-- ==== Sys2Proof/Word.lean ====
section
/-! DEFINITION. The words of the part: bytes on its wires and tables, the 16-bit timestamp of records
and frames, and the free-running 32-bit part time (spec/00_scope.md 0.5). -/

namespace Sys2Proof

/-- One byte of a wire, a frame or a table row. -/
abbrev Byte := BitVec 8

/-- A timestamp: the low 16 bits of part time (0.5). -/
abbrev Stamp := BitVec 16

/-- Part time in ms, 32 bits wide, wrapping (0.5). -/
abbrev PartTime := BitVec 32

end Sys2Proof
end

