-- ==== Sys2Proof/Syntax.lean ====
section
/-! DEFINITION. The commands of the part (spec/opcode_table.json, one constructor per row) and the
named values they carry. The lists of values stand in the order of the owning chapters, because an
enumeration is coded by its position there (11.7). -/

namespace Sys2Proof.Machine

/-! ### Lines, sensors and ports (chapters 1 and 3) -/

/-- The four filtered lines (1.1.1). -/
inductive Line where
  | frontHall | rearHall | dockContact | penContact
  deriving DecidableEq, Repr

/-- The two hall lines. -/
inductive Hall where
  | front | rear
  deriving DecidableEq, Repr

/-- The two accelerometers, which are also the `port` of a sample record (R8, R38). -/
inductive Sensor where
  | lid | base
  deriving DecidableEq, Repr

/-- The lid sensor port's state (1.2.1). -/
inductive PortState where
  | running | stalled | off
  deriving DecidableEq, Repr

/-- Three axis values, in counts (0.5). -/
structure Vec3 where
  x : Int
  y : Int
  z : Int
  deriving DecidableEq, Repr

/-- A sample record: the port, the mapped axes and the part time (R8, R38). -/
structure Sample where
  sensor : Sensor
  v : Vec3
  time : PartTime
  deriving DecidableEq, Repr

/-! ### Dock link (chapter 2) -/

/-- The dock state (2.1). -/
inductive DockState where
  | absent | unpowered | attaching | attached | mute
  deriving DecidableEq, Repr

/-- Which of the two posture gates. -/
inductive GateId where
  | key | pointer
  deriving DecidableEq, Repr

/-- A gate value (2.7, 5.3.1). -/
inductive Gate where
  | pass | block
  deriving DecidableEq, Repr

/-- The event kinds of a DOCK_EVENT record (R27). -/
inductive DockEventKind where
  | attached | mute | recovered | detached | unpowered | itemsDropped
  deriving DecidableEq, Repr

/-! ### Hinge, rotation and posture (chapters 3 to 5) -/

/-- The hinge quality (3.2). -/
inductive Quality where
  | noData | good | moving | axisVertical | stale | hallConflict | noBase
  deriving DecidableEq, Repr

/-- The base face (3.2). -/
inductive BaseFace where
  | up | down | edge | unknown
  deriving DecidableEq, Repr

/-- The rotation state (chapter 4). -/
inductive Rot where
  | rot0 | rot90 | rot180 | rot270
  deriving DecidableEq, Repr

/-- The cause in a ROTATION record (R77). -/
inductive RotCause where
  | dwell | forced
  deriving DecidableEq, Repr

/-- The rotation policy (5.3.1). -/
inductive Policy where
  | free | hold | forceRot0
  deriving DecidableEq, Repr

/-- The seven row postures (5.1). UNKNOWN is `none` of `Option Posture`. -/
inductive Posture where
  | closed | laptop | flat | stand | tent | tablet | slate
  deriving DecidableEq, Repr

/-- The charge allowance (5.3.1). -/
inductive Allowance where
  | allow | reduced | deny
  deriving DecidableEq, Repr

/-- The sleep class (5.3.1). -/
inductive SleepClass where
  | none | idle | closed
  deriving DecidableEq, Repr

/-! ### Action lines, charger, sleep (chapters 6, 8 and 9) -/

/-- A trigger: one of the eight kinds, with a posture for the two posture kinds (R103). -/
inductive Trigger where
  | postureLeave (p : Posture)
  | postureEnter (p : Posture)
  | platformAsleep
  | platformAwake
  | dockAttached
  | dockAbsent
  | penInserted
  | chargerFault
  deriving DecidableEq, Repr

/-- What a paused charger returns to (8.1). -/
inductive PauseTarget where
  | probe
  | charging (k : Nat)
  deriving DecidableEq, Repr

/-- The kind of a charger fault (8.1). -/
inductive ChargerFault where
  | overcurrent | stageTimeout
  deriving DecidableEq, Repr

/-- The charger state (8.1). FAULT keeps the stage index it was entered from, if any (R132). -/
inductive ChargerState where
  | empty
  | probe
  | charging (k : Nat)
  | done
  | paused (target : PauseTarget) (deny budget : Bool)
  | fault (kind : ChargerFault) (stage : Option Nat)
  deriving DecidableEq, Repr

/-- The kind label of a profile row (8.4.1). -/
inductive StageKind where
  | precharge | bulk | taper | topup
  deriving DecidableEq, Repr

/-- The platform state, which is also the route column (chapter 9, 10.2.1). -/
inductive Platform where
  | awake | asleep
  deriving DecidableEq, Repr

/-- The nine wake reasons: the eight wake-class kinds in WAKE_MASK order, then RECENT_ACTIVITY (9.1, 9.6). -/
inductive WakeReason where
  | lidOpened | key | pointer | dockAttached | dockDetached | penInserted | penRemoved | motion | recentActivity
  deriving DecidableEq, Repr

/-- The activity kinds, in the order of 11.7.6. -/
inductive Activity where
  | key | pointer | posture | rotation | dock | pen | motion
  deriving DecidableEq, Repr

/-- The reason of sleep advice (9.1). -/
inductive AdviceReason where
  | lidClosed | idle
  deriving DecidableEq, Repr

/-- The cause of a withdrawal (R147). -/
inductive WithdrawCause where
  | sleepClass
  | activity (a : Activity)
  deriving DecidableEq, Repr

/-- The three kinds of SLEEP record (R147). The wake reason set has one bit per reason, in reason order. -/
inductive SleepEvent where
  | advice (reason : AdviceReason) (cls : SleepClass)
  | withdrawn (reason : AdviceReason) (cause : WithdrawCause)
  | wake (reason : WakeReason) (set : BitVec 9)
  deriving DecidableEq, Repr

/-! ### Records and responses (chapters 10 and 11) -/

/-- The status codes of a RESPONSE (11.6). -/
inductive Status where
  | ok | adjusted | refusedRow | badRequest | badIndex | badState
  deriving DecidableEq, Repr

/-- The four FAULT records (R9, R132, R173). -/
inductive FaultEvent where
  | lidPortStalled
  | charger (kind : ChargerFault) (stage : Option Nat) (current : Nat)
  | downstreamOverrun (kind tag : Byte)
  deriving DecidableEq, Repr

/-- The fifteen streams, in id order (10.1). -/
inductive Stream where
  | lidSample | baseSample | hinge | rotation | posture | key | pointer | dockStatus | dockEvent
  | penEvent | chargeTelemetry | lineEvent | sleep | response | fault
  deriving DecidableEq, Repr

/-- A record offered to the UFE, with the fields its owning chapter lists. -/
inductive Record where
  | lidSample (v : Vec3) (ts : Stamp)
  | baseSample (v : Vec3) (ts : Stamp)
  | hinge (reported : Option Nat) (quality : Quality) (raw : Option Nat) (ts : Stamp)
  | rotation (old new : Rot) (cause : RotCause) (ts : Stamp)
  | posture (old : Option Posture) (new : Posture) (row : Nat) (hinge : Option Nat) (dock : DockState) (ts : Stamp)
  | key (synthetic : Bool) (modifier : Byte) (codes : List Byte) (ts : Stamp)
  | pointer (synthetic : Bool) (dx dy : Byte) (buttons : BitVec 3) (wheel : Byte) (ts : Stamp)
  | dockStatus (draw : Nat) (identity faultBits : Byte) (ts : Stamp)
  | dockEvent (kind : DockEventKind) (state : DockState) (undelivered : Nat) (ts : Stamp)
  | penEvent (inserted : Bool) (state : ChargerState) (ts : Stamp)
  | chargeTelemetry (state : ChargerState) (rowKind : Option StageKind) (duty current ceiling : Nat) (ts : Stamp)
  | lineEvent (line : Line) (asserted : Bool) (ts : Stamp)
  | sleep (event : SleepEvent) (ts : Stamp)
  | response (tag code : Byte) (status : Status) (row : Byte) (data : List Byte) (final : Bool)
  | fault (event : FaultEvent) (ts : Stamp)
  deriving DecidableEq, Repr

end Sys2Proof.Machine

namespace Sys2Proof

open Machine

/-! ### The commands -/

/-- The commands of spec/opcode_table.json, in its order. A request carries its TAG first. A delivery between
blocks carries what the sender delivers. The last operand of a line event, its part time, and of a received byte, its stop
bit, may be left out: no rule of a consumer reads it, and it is then 0, or a stop bit that was there. -/
inductive Instr where
  /-- POWER_ON_RESET (R182): the levels of RATE_SEL (high = 3 Mbit/s) and HOLD at the reset. -/
  | powerOnReset (rateSel hold : Bool)
  /-- LIF_SAMPLE (R1): the four raw pin levels, high = true. -/
  | lifSample (frontHall rearHall dockContact penContact : Bool)
  /-- SAMPLE_TIMER_EXPIRY (R6). -/
  | sampleTimerExpiry
  /-- READ_COMPLETION (R7): the fetched identity byte, new-data indication and raw axis values. -/
  | readCompletion (identity : Byte) (newData : Bool) (x y z : BitVec 16)
  /-- PORT_OFF (R10): the port argument. -/
  | portOff (tag port : Byte)
  /-- RESTART_PORT_LID (R11). -/
  | restartPortLid (tag : Byte)
  /-- POLL_TIMER_EXPIRY (R18). -/
  | pollTimerExpiry
  /-- ANSWER_TIMEOUT (R19). -/
  | answerTimeout
  /-- ANSWER_CUTOFF (R19). -/
  | answerCutoff
  /-- ANSWER_END (R19): the bytes of the answer (11.7.7). -/
  | answerEnd (bytes : List Byte)
  /-- DOCK_CONTACT_EVENT (R24): asserted or clear, and the part time of the sample (R2). -/
  | dockContactEvent (asserted : Bool) (time : PartTime := 0)
  /-- AL0_LEVEL_DELIVERY (R24): on or off. -/
  | al0LevelDelivery (on : Bool)
  /-- ATTACH_TIMER_EXPIRY (R25). -/
  | attachTimerExpiry
  /-- GATE_DELIVERY (R37). -/
  | gateDelivery (which : GateId) (value : Gate)
  /-- DOCK_ITEM_HANDOVER (R31): the item's bytes. -/
  | dockItemHandover (item : List Byte)
  /-- RESTART_PORT_DOCK (R29). -/
  | restartPortDock (tag : Byte)
  /-- CLEAR_DOCK_ERROR (R34). -/
  | clearDockError (tag : Byte)
  /-- COMPUTATION (R48): the delivered sample. -/
  | computation (sample : Sample)
  /-- LID_FILTER_CLEAR (R45). -/
  | lidFilterClear
  /-- BASE_INVALIDATION (R45). -/
  | baseInvalidation
  /-- PORT_STATE_DELIVERY (R51). -/
  | portStateDelivery (state : PortState)
  /-- HAE_DOCK_STATE_DELIVERY (R51). -/
  | haeDockStateDelivery (state : DockState)
  /-- FRESHNESS_TIMER_EXPIRY (R47). -/
  | freshnessTimerExpiry (sensor : Sensor)
  /-- HAE_HALL_EVENT (R57): the line, its level and the part time of the sample (R2). -/
  | haeHallEvent (hall : Hall) (asserted : Bool) (time : PartTime := 0)
  /-- LID_VECTOR_DELIVERY (R68). -/
  | lidVectorDelivery (v : Vec3)
  /-- NO_VECTOR (R74). -/
  | noVector
  /-- POLICY_DELIVERY (R72): the policy and the acceptance mark. -/
  | policyDelivery (policy : Policy) (acceptance : Bool)
  /-- ROTATION_DWELL_EXPIRY (R71). -/
  | rotationDwellExpiry
  /-- SET_ROTATION_LOCK (R73): the argument byte. -/
  | setRotationLock (tag lock : Byte)
  /-- HINGE_DELIVERY (R79): reported hinge, quality and base face together. -/
  | hingeDelivery (hinge : Option Nat) (quality : Quality) (face : BaseFace)
  /-- PCL_DOCK_STATE_DELIVERY (R79). -/
  | pclDockStateDelivery (state : DockState)
  /-- PCL_HALL_EVENT (R79): the line, its level and the part time of the sample (R2). -/
  | pclHallEvent (hall : Hall) (asserted : Bool) (time : PartTime := 0)
  /-- POSTURE_DWELL_EXPIRY (R87). -/
  | postureDwellExpiry
  /-- COMMIT_POSTURE (R91). -/
  | commitPosture (tag : Byte)
  /-- CLEAR_NO_MATCH (R93). -/
  | clearNoMatch (tag : Byte)
  /-- TRIGGER_DELIVERY (R104). -/
  | triggerDelivery (trigger : Trigger)
  /-- SET_LINE (R105): line index and level argument. -/
  | setLine (tag line level : Byte)
  /-- DRAW_DELIVERY (R111): mA. -/
  | drawDelivery (draw : Nat)
  /-- ALLOWANCE_DELIVERY (R111). -/
  | allowanceDelivery (allowance : Allowance)
  /-- PEN_INSERTION (R122): the assertion, with the part time of the sample (R2). -/
  | penInsertion (time : PartTime := 0)
  /-- PEN_REMOVAL (R123): the clear, with the part time of the sample (R2). -/
  | penRemoval (time : PartTime := 0)
  /-- SSU_RESULT_DELIVERY (R120). -/
  | ssuResultDelivery (allowance : Allowance) (dutyCeiling : Nat) (budgetPause : Bool)
  /-- INTERVAL_END (R121): the measured current I, 0..2047 mA. -/
  | intervalEnd (current : Nat)
  /-- RECHARGE_TIMER_EXPIRY (R128). -/
  | rechargeTimerExpiry
  /-- CLEAR_CHARGER (R132). -/
  | clearCharger (tag : Byte)
  /-- COMMIT_PROFILE (R134). -/
  | commitProfile (tag : Byte)
  /-- KEY_OCCURRENCE (R140). -/
  | keyOccurrence
  /-- POINTER_OCCURRENCE (R140). -/
  | pointerOccurrence
  /-- DOCK_ATTACH (R140). -/
  | dockAttach
  /-- DOCK_DETACH (R140). -/
  | dockDetach
  /-- ACCEPTANCE_NOTICE (R143): the sleep classes of the posture left and entered. -/
  | acceptanceNotice (old new : SleepClass)
  /-- SLEEP_CLASS_CHANGE (R144). -/
  | sleepClassChange (cls : SleepClass)
  /-- ROTATION_OCCURRENCE (R140). -/
  | rotationOccurrence
  /-- PEN_INSERTED_OCCURRENCE (R140). -/
  | penInsertedOccurrence
  /-- PEN_REMOVED_OCCURRENCE (R140). -/
  | penRemovedOccurrence
  /-- LID_MOTION_OCCURRENCE (R142): the MOTION_IS_ACTIVITY mark. -/
  | lidMotionOccurrence (isActivity : Bool)
  /-- IDLE_TIMER_EXPIRY (R145). -/
  | idleTimerExpiry
  /-- CLOSED_HOLD_EXPIRY (R146). -/
  | closedHoldExpiry
  /-- SET_PLATFORM_STATE_ASLEEP (R148). -/
  | setPlatformStateAsleep (tag : Byte)
  /-- SET_PLATFORM_STATE_AWAKE (R149). -/
  | setPlatformStateAwake (tag : Byte)
  /-- RECORD_OFFER (R156). -/
  | recordOffer (record : Record)
  /-- FLUSH_TIMER_EXPIRY (R160). -/
  | flushTimerExpiry (stream : Stream)
  /-- COLUMN_CHANGE (R161): the platform state delivered. -/
  | columnChange (platform : Platform)
  /-- COMMIT_ROUTE (R162). -/
  | commitRoute (tag : Byte)
  /-- FRAME_COMPLETION (R165). -/
  | frameCompletion
  /-- HOLD_CHANGE (R166): the level, asserted = true. -/
  | holdChange (asserted : Bool)
  /-- BYTE_RECEIVED (R172): the data bits received, and whether the stop bit was there (R170). -/
  | byteReceived (byte : Byte) (stopBit : Bool := true)
  /-- GAP_TIMER_EXPIRY (R172). -/
  | gapTimerExpiry
  /-- DOCK_ROOM_NOTICE (R175). -/
  | dockRoomNotice
  /-- REQUEST_UNKNOWN_CODE (R176): the whole payload of a request that no other row takes. -/
  | requestUnknownCode (tag : Byte) (payload : List Byte)
  /-- IDENTIFY (R178). -/
  | identify (tag : Byte)
  /-- GET_STATUS (R178). -/
  | getStatus (tag sect : Byte)
  /-- SET_PARAM (R177): parameter id and signed 32-bit value. -/
  | setParam (tag id : Byte) (value : BitVec 32)
  /-- GET_PARAM (R177). -/
  | getParam (tag id : Byte)
  /-- WRITE_ROWS_MOUNT_LID (R13): start index, count and the row bytes. -/
  | writeRowsMountLid (tag start count : Byte) (rows : List Byte)
  /-- WRITE_ROWS_MOUNT_BASE (R39). -/
  | writeRowsMountBase (tag start count : Byte) (rows : List Byte)
  /-- WRITE_ROWS_POSTURE (R81). -/
  | writeRowsPosture (tag start count : Byte) (rows : List Byte)
  /-- WRITE_ROWS_ROUTE (R157). -/
  | writeRowsRoute (tag start count : Byte) (rows : List Byte)
  /-- WRITE_ROWS_PROFILE (R133). -/
  | writeRowsProfile (tag start count : Byte) (rows : List Byte)
  /-- WRITE_ROWS_ACTION (R106). -/
  | writeRowsAction (tag start count : Byte) (rows : List Byte)
  /-- READ_ROWS (R179). -/
  | readRows (tag table bank start count : Byte)
  /-- CLEAR_LINK_ERRORS (R180). -/
  | clearLinkErrors (tag : Byte)
  /-- SOFT_RESET (R181). -/
  | softReset (tag : Byte)
  /-- ANSWER_BEGIN (R19). -/
  | answerBegin
  deriving DecidableEq, Repr

end Sys2Proof
end

