-- ==== Sys2Proof/Config.lean ====
section
/-! DEFINITION. The values the manual leaves open. Each is an opaque constant: nothing in Lean can
evaluate it, so a claim holds whatever it is. -/

namespace Sys2Proof

/-- DESIGN CHOICE (log 7). The byte a fixed-size layout holds where the manual states no value for it:
the bytes behind a presence byte of 0, and fields of an absent record. The first argument is the
model's counter of free values (`Machine.State.freeCount`), the second the byte's place in the data. -/
opaque Config.freeByte : Nat → Nat → Byte

/-- DESIGN CHOICE (log 8). How a consumed mark or new-data mark byte other than 0 and 1 is taken
(R20 and 11.7.7 give the marks as a yes/no, which 11.7 codes 0 or 1). -/
opaque Config.markBeyond : Byte → Bool

/-- DESIGN CHOICE (log 9). The direction that R53's arithmetic gives the zero vector, which has no angle;
the manual says it is never taken (R52, R68). -/
opaque Config.zeroDirection : Nat

end Sys2Proof
end

