-- ==== Sys2Proof/Machine/Blocks.lean ====
section
/-! DEFINITION. The state of the twelve blocks as plain data, one structure per block, each field as the
block's chapter lists it. Parameters stand in the block that owns them. -/

namespace Sys2Proof.Machine

/-- A named timer (0.5): cancelled, or running toward the part time of its expiry. -/
inductive Timer where
  | cancelled
  | running (expiry : PartTime)
  deriving DecidableEq, Repr

/-! ### LIF and LSP (chapter 1) -/

/-- One line's filter (1.1.1): stage count, polarity, agreement count and filtered level. -/
structure LineFilter where
  stages : Nat
  activeLow : Bool
  count : Nat
  level : Bool
  deriving DecidableEq, Repr

/-- The line input filter. -/
structure Lif where
  frontHall : LineFilter
  rearHall : LineFilter
  dockContact : LineFilter
  penContact : LineFilter
  deriving DecidableEq, Repr

/-- A sensor axis. -/
inductive Axis where
  | x | y | z
  deriving DecidableEq, Repr

/-- The source of one output axis: an axis and a sign (1.3.1). -/
structure Source where
  axis : Axis
  negate : Bool
  deriving DecidableEq, Repr

/-- A mount record (1.3.1, R39). -/
structure Mount where
  srcX : Source
  srcY : Source
  srcZ : Source
  offset : Vec3
  identity : Byte
  deriving DecidableEq, Repr

/-- The last read outcome (1.2.1). -/
inductive ReadOutcome where
  | none | good | noNewData | idMismatch
  deriving DecidableEq, Repr

/-- The lid sensor port (1.2.1). -/
structure Lsp where
  port : PortState
  streak : Nat
  reading : Bool
  timer : Timer
  outcome : ReadOutcome
  last : Option Sample
  mount : Mount
  samplePeriod : Nat
  deriving DecidableEq, Repr

/-! ### DLC (chapter 2) -/

/-- The exchange record (2.1): the awaited poll number and whether an item rides. `answering` says that the
answer has begun (R19), `timeout` is the ANSWER_TIMEOUT the exchange keeps, in µs (R23). -/
structure Exchange where
  poll : Byte
  riding : Bool
  answering : Bool
  timeout : Nat
  deriving DecidableEq, Repr

/-- The outcome kinds of a failed exchange (R19). -/
inductive FailKind where
  | miss | corrupt | malformed
  deriving DecidableEq, Repr

/-- The last-error record (R34). -/
structure LastError where
  kind : FailKind
  poll : Byte
  time : PartTime
  deriving DecidableEq, Repr

/-- The identity match (2.1). -/
inductive IdMatch where
  | unknown | matched | mismatched
  deriving DecidableEq, Repr

/-- An item of the dock downstream queue with its offer count (2.1). -/
structure DockItem where
  bytes : List Byte
  offers : Nat
  deriving DecidableEq, Repr

/-- The dock link controller (2.1, 2.9). `statusDraw` is the draw of the latest STATUS record (R35).
`stray` says that wire activity which began with no exchange in progress, or whose exchange was abandoned,
is still on the wire (R19). `wire` is the latest POLL driven on DOCK_IO. No held key is modifier 0 with no code. -/
structure Dlc where
  state : DockState
  al0 : Bool
  nextPoll : Byte
  exchange : Option Exchange
  stray : Bool
  wire : List Byte
  pollTimer : Timer
  attachTimer : Timer
  missStreak : Nat
  lastError : Option LastError
  statusSeen : Bool
  announced : Bool
  identity : Option Byte
  faultBits : Byte
  idMatch : IdMatch
  statusDraw : Nat
  queue : List DockItem
  undelivered : Nat
  draw : Nat
  keyGate : Gate
  pointerGate : Gate
  heldModifier : Byte
  heldCodes : List Byte
  heldButtons : BitVec 3
  mount : Mount
  lastBase : Option Sample
  pollPeriod : Nat
  answerTimeout : Nat
  attachTimeout : Nat
  missLimit : Nat
  defaultDraw : Nat
  deriving DecidableEq, Repr

/-! ### HAE (chapter 3) -/

/-- A filtered vector with its update time (3.2). -/
structure Filtered where
  v : Vec3
  updated : PartTime
  deriving DecidableEq, Repr

/-- The hinge angle engine (3.2, 3.8). A cleared vector, an UNKNOWN hinge and no raw hinge are `none`. -/
structure Hae where
  lid : Option Filtered
  base : Option Filtered
  lidTimer : Timer
  baseTimer : Timer
  lidMoving : Bool
  baseMoving : Bool
  dock : DockState
  port : PortState
  front : Bool
  rear : Bool
  raw : Option Nat
  tracked : Option Nat
  reported : Option Nat
  quality : Quality
  face : BaseFace
  filterShift : Nat
  motionThreshold : Nat
  motionIsActivity : Bool
  projectionMin : Nat
  hingeCal : Int
  hingeDeadband : Nat
  faceT : Nat
  deriving DecidableEq, Repr

/-! ### ROT (chapter 4) -/

/-- The rotation unit (4.1, 4.5). -/
structure RotUnit where
  rot : Rot
  candidate : Option Rot
  timer : Timer
  lock : Bool
  policy : Policy
  angle : Option Nat
  rotMin : Nat
  rotHyst : Nat
  rotDwell : Nat
  deriving DecidableEq, Repr

/-! ### PCL (chapter 5) -/

/-- The five outputs of a posture row (5.3.1). -/
structure Outputs where
  keyGate : Gate
  pointerGate : Gate
  policy : Policy
  allowance : Allowance
  sleep : SleepClass
  deriving DecidableEq, Repr

/-- The dock condition of a row (5.3.1). -/
inductive DockCondition where
  | attached | notAttached
  deriving DecidableEq, Repr

/-- A posture row (5.3.1). A hall condition is `some true` for ASSERTED; an absent field is `none`. -/
structure PostureRow where
  inUse : Bool
  posture : Posture
  hinge : Option (Nat × Nat)
  needGood : Bool
  dock : Option DockCondition
  front : Option Bool
  rear : Option Bool
  face : Option BaseFace
  dwell : Nat
  out : Outputs
  deriving DecidableEq, Repr

/-- The posture classifier (5.2). The current posture UNKNOWN is `none`. -/
structure Pcl where
  active : List PostureRow
  pending : List PostureRow
  posture : Option Posture
  row : Option Nat
  candidate : Option Nat
  timer : Timer
  noMatch : Bool
  hinge : Option Nat
  quality : Quality
  face : BaseFace
  dock : DockState
  front : Bool
  rear : Bool
  published : Outputs
  deriving DecidableEq, Repr

/-! ### ALU and SSU (chapters 6 and 7) -/

/-- The mode of an action line (6.1). -/
inductive LineMode where
  | direct | triggered
  deriving DecidableEq, Repr

/-- The rearm field (6.1). -/
inductive Rearm where
  | once | every
  deriving DecidableEq, Repr

/-- An action line record (6.1). -/
structure ActionLine where
  invert : Bool
  mode : LineMode
  level : Bool
  staged : Bool
  trigger : Trigger
  rearm : Rearm
  armed : Bool
  deriving DecidableEq, Repr

/-- The action line unit: the records of AL0 to AL3. -/
structure Alu where
  al0 : ActionLine
  al1 : ActionLine
  al2 : ActionLine
  al3 : ActionLine
  deriving DecidableEq, Repr

/-- The supply sharing unit (7.1). -/
structure Ssu where
  draw : Nat
  allowance : Allowance
  railBudget : Nat
  coilCeiling : Nat
  dutyCeiling : Nat
  budgetPause : Bool
  railLimit : Nat
  railReserve : Nat
  coilFull : Nat
  dutyMax : Nat
  coilMin : Nat
  deriving DecidableEq, Repr

/-! ### PCH (chapter 8) -/

/-- The limit action of a profile row (8.4.1). -/
inductive LimitAction where
  | next | fault
  deriving DecidableEq, Repr

/-- A profile row (8.4.1). -/
structure ProfileRow where
  inUse : Bool
  kind : StageKind
  target : Nat
  limit : Nat
  action : LimitAction
  exitBelow : Option Nat
  deriving DecidableEq, Repr

/-- The pen charger (8.1, 8.6). `probePassed` is the first-interval-end mark of the probe count, and
`interval` the length in ms of the regulation interval in progress (R121). -/
structure Pch where
  state : ChargerState
  elapsed : Nat
  probeCount : Nat
  probePassed : Bool
  staged : Nat
  applied : Nat
  ocStreak : Nat
  exitStreak : Nat
  rechargeTimer : Timer
  lastCurrent : Nat
  allowance : Allowance
  dutyCeiling : Nat
  budgetPause : Bool
  active : List ProfileRow
  pending : List ProfileRow
  interval : Nat
  regInterval : Nat
  probeMin : Nat
  regBand : Nat
  regStep : Nat
  ocLimit : Nat
  rechargeInterval : Nat
  deriving DecidableEq, Repr

/-! ### SWA (chapter 9) -/

/-- The sleep/wake arbiter (9.1). The advice state NONE is `none`; the WAKE line is `wakeRaised`. -/
structure Swa where
  platform : Platform
  advice : Option AdviceReason
  cls : SleepClass
  idleTimer : Timer
  holdTimer : Timer
  lastWake : Option PartTime
  wakeRaised : Bool
  wakeSet : BitVec 9
  idleTimeout : Nat
  closedHold : Nat
  wakeGuard : Nat
  wakeMask : Byte
  deriving DecidableEq, Repr

/-! ### UFE (chapter 10) -/

/-- A frame's class (10.2.1). -/
inductive FrameClass where
  | high | normal | low
  deriving DecidableEq, Repr

/-- A column's action with its parameters (10.2.1). -/
inductive RouteAction where
  | pass
  | drop
  | decimate (n : Nat)
  | changeOnly (deadband maxHold : Nat)
  | batch (block flush : Nat)
  deriving DecidableEq, Repr

/-- One column of a route entry (10.2.1). -/
structure RouteColumn where
  action : RouteAction
  cls : FrameClass
  deriving DecidableEq, Repr

/-- A route entry (10.2.1). -/
structure RouteEntry where
  awake : RouteColumn
  asleep : RouteColumn
  deriving DecidableEq, Repr

/-- A stream's forwarding state (10.2.1). -/
structure Forwarding where
  counter : Nat
  last : Option Record
  suppressed : Nat
  acc : List Record
  flush : Timer
  deriving DecidableEq, Repr

/-- A queued frame (10.3). `batch` marks a batch frame and `final` the RESPONSE to SOFT_RESET (R155). -/
structure Frame where
  stream : Stream
  batch : Bool
  cls : FrameClass
  payload : List Byte
  time : PartTime
  final : Bool
  deriving DecidableEq, Repr

/-- The frame in transmission with the GAP it carries (R165). -/
structure Sending where
  frame : Frame
  gap : Nat
  deriving DecidableEq, Repr

/-- The upstream forwarding engine (10.1 to 10.4). `sending` is `none` when the transmitter is idle.
`finalLost` holds the TAG of a lost final RESPONSE whose loss waits for the frame in transmission (R165). -/
structure Ufe where
  queue : List Frame
  sending : Option Sending
  finalLost : Option Byte
  hold : Bool
  column : Platform
  active : List RouteEntry
  pending : List RouteEntry
  fwd : List Forwarding
  gaps : List Nat
  deriving DecidableEq, Repr

/-! ### HLM (chapter 11) -/

/-- A received byte with the part time of its reception, which the gap timer needs after a rehunt (R172). -/
structure RxByte where
  byte : Byte
  time : PartTime
  deriving DecidableEq, Repr

/-- The two downstream kinds (11.7.1). -/
inductive DownKind where
  | request | dockItem
  deriving DecidableEq, Repr

/-- A frame of the downstream queue (11.1). -/
structure DownFrame where
  kind : DownKind
  tag : Byte
  payload : List Byte
  deriving DecidableEq, Repr

/-- The head state (R175). -/
inductive HeadState where
  | idle | executing | waitingForDockRoom | resetting
  deriving DecidableEq, Repr

/-- The host link and management unit (11.1). `fastLink` is the rate 3 000 000 bit/s. `rx` is empty in HUNTING,
and otherwise holds the bytes received from the frame's SYNC on. -/
structure Hlm where
  fastLink : Bool
  rx : List RxByte
  gapTimer : Timer
  queue : List DownFrame
  head : HeadState
  busy : Bool
  checkErrors : Nat
  kindErrors : Nat
  lengthErrors : Nat
  gapErrors : Nat
  overruns : Nat
  lastLost : Option Byte
  busyOn : Nat
  busyOff : Nat
  deriving DecidableEq, Repr

end Sys2Proof.Machine
end

