-- ==== Sys2Proof/Machine/Reset.lean ====
section
/-! DEFINITION. The reset values of the twelve blocks, as each chapter's reset rule states them. -/

namespace Sys2Proof.Machine

/-- The defaults of R3 for one line, with the level clear and the count 0 (R4). -/
def LineFilter.initial (stages : Nat) (activeLow : Bool) : LineFilter :=
  { stages := stages, activeLow := activeLow, count := 0, level := false }

/-- R4. -/
def lifReset : Lif :=
  { frontHall := LineFilter.initial 3 true
    rearHall := LineFilter.initial 3 true
    dockContact := LineFilter.initial 10 false
    penContact := LineFilter.initial 10 false }

/-- The default map +X, +Y, +Z with offsets 0 (1.3.1, R39). -/
def mountDefault (identity : Byte) : Mount :=
  { srcX := ⟨.x, false⟩, srcY := ⟨.y, false⟩, srcZ := ⟨.z, false⟩, offset := ⟨0, 0, 0⟩, identity := identity }

/-- R16: the first expiry of the sample timer comes one SAMPLE_PERIOD after the reset. -/
def lspReset : Lsp :=
  { port := .running, streak := 0, reading := false, timer := .running 10, outcome := .none, last := none
    mount := mountDefault 0x4A, samplePeriod := 10 }

/-- R41. The wire and the draw of the latest STATUS are the model's (log 10). -/
def dlcReset : Dlc :=
  { state := .absent, al0 := true, nextPoll := 0, exchange := none, stray := false, wire := []
    pollTimer := .cancelled, attachTimer := .cancelled, missStreak := 0, lastError := none
    statusSeen := false, announced := false, identity := none, faultBits := 0, idMatch := .unknown
    statusDraw := 0, queue := [], undelivered := 0, draw := 0, keyGate := .pass, pointerGate := .pass
    heldModifier := 0, heldCodes := [], heldButtons := 0, mount := mountDefault 0x5C, lastBase := none
    pollPeriod := 8, answerTimeout := 1000, attachTimeout := 500, missLimit := 3, defaultDraw := 250 }

/-- R65 with the defaults of R63. -/
def haeReset : Hae :=
  { lid := none, base := none, lidTimer := .cancelled, baseTimer := .cancelled, lidMoving := false
    baseMoving := false, dock := .absent, port := .running, front := false, rear := false, raw := none
    tracked := none, reported := none, quality := .noData, face := .unknown, filterShift := 2
    motionThreshold := 410, motionIsActivity := false, projectionMin := 1434, hingeCal := 0
    hingeDeadband := 16, faceT := 2896 }

/-- R78. -/
def rotReset : RotUnit :=
  { rot := .rot0, candidate := none, timer := .cancelled, lock := false, policy := .free, angle := none
    rotMin := 2048, rotHyst := 240, rotDwell := 300 }

/-- The fallback outputs (R90). -/
def fallbackOutputs : Outputs :=
  { keyGate := .pass, pointerGate := .pass, policy := .free, allowance := .allow, sleep := .none }

/-- An unused row of the built-in table (R97). -/
def unusedPostureRow : PostureRow :=
  { inUse := false, posture := .closed, hinge := none, needGood := false, dock := none, front := none
    rear := none, face := none, dwell := 0, out := fallbackOutputs }

/-- A row in use with no condition, from its posture, dwell and outputs. -/
def bareRow (p : Posture) (dwell : Nat) (gate : Gate) (policy : Policy) (al : Allowance) (cls : SleepClass) : PostureRow :=
  { unusedPostureRow with
    inUse := true, posture := p, dwell := dwell
    out := { keyGate := gate, pointerGate := gate, policy := policy, allowance := al, sleep := cls } }

/-- The built-in default table (R97). -/
def defaultPostures : List PostureRow :=
  [ { bareRow .closed 200 .block .hold .allow .closed with front := some true },
    { bareRow .slate 300 .block .free .allow .idle with
      dock := some .notAttached, front := some false, rear := some false },
    { bareRow .tablet 300 .block .free .reduced .idle with rear := some true },
    { bareRow .laptop 250 .pass .forceRot0 .allow .idle with
      hinge := some (320, 2560), dock := some .attached, face := some .up },
    { bareRow .flat 400 .pass .free .allow .idle with hinge := some (2561, 3200), face := some .up },
    { bareRow .stand 400 .block .free .allow .idle with hinge := some (3201, 5600), face := some .down },
    { bareRow .tent 400 .block .free .allow .idle with
      hinge := some (3201, 5600), face := some .edge, needGood := true } ]
  ++ List.replicate 9 unusedPostureRow

/-- R98. -/
def pclReset : Pcl :=
  { active := defaultPostures, pending := defaultPostures, posture := none, row := none, candidate := none
    timer := .cancelled, noMatch := false, hinge := none, quality := .noData, face := .unknown
    dock := .absent, front := false, rear := false, published := fallbackOutputs }

/-- A reset record of R110 with its level. -/
def actionLineReset (level : Bool) : ActionLine :=
  { invert := false, mode := .direct, level := level, staged := level, trigger := .postureEnter .tablet
    rearm := .once, armed := false }

/-- R110. -/
def aluReset : Alu :=
  { al0 := actionLineReset true, al1 := actionLineReset false, al2 := actionLineReset false
    al3 := actionLineReset false }

/-- R118 with the defaults of R115. -/
def ssuReset : Ssu :=
  { draw := 0, allowance := .allow, railBudget := 850, coilCeiling := 850, dutyCeiling := 725
    budgetPause := false, railLimit := 900, railReserve := 50, coilFull := 1200, dutyMax := 900
    coilMin := 100 }

/-- The built-in default profile (8.4.1). -/
def defaultProfile : List ProfileRow :=
  [ { inUse := true, kind := .precharge, target := 60, limit := 120, action := .next, exitBelow := none },
    { inUse := true, kind := .bulk, target := 450, limit := 5400, action := .fault, exitBelow := some 150 },
    { inUse := true, kind := .taper, target := 150, limit := 1800, action := .next, exitBelow := some 40 } ]
  ++ List.replicate 3
    { inUse := false, kind := .topup, target := 10, limit := 1, action := .next, exitBelow := none }

/-- R139 with the defaults of R137. -/
def pchReset : Pch :=
  { state := .empty, elapsed := 0, probeCount := 0, probePassed := false, staged := 0, applied := 0
    ocStreak := 0, exitStreak := 0, rechargeTimer := .cancelled, lastCurrent := 0, allowance := .allow
    dutyCeiling := 725, budgetPause := false, active := defaultProfile, pending := defaultProfile
    interval := 10, regInterval := 10, probeMin := 20, regBand := 10, regStep := 8, ocLimit := 1100
    rechargeInterval := 600 }

/-- R153: the idle timer runs from the reset with 120 s. -/
def swaReset : Swa :=
  { platform := .awake, advice := none, cls := .none, idleTimer := .running 120000, holdTimer := .cancelled
    lastWake := none, wakeRaised := false, wakeSet := 0, idleTimeout := 120, closedHold := 1000
    wakeGuard := 2000, wakeMask := 79 }

/-- A route column. -/
def col (a : RouteAction) (c : FrameClass) : RouteColumn := { action := a, cls := c }

/-- A default entry whose ASLEEP column is DROP, held with class LOW (R168). -/
def dropAsleep (awake : RouteColumn) : RouteEntry := { awake := awake, asleep := col .drop .low }

/-- The default routing (R168). -/
def defaultRoutes : List RouteEntry :=
  [ dropAsleep (col (.decimate 10) .low),
    dropAsleep (col (.decimate 10) .low),
    dropAsleep (col (.changeOnly 16 50) .normal),
    dropAsleep (col .pass .high),
    { awake := col .pass .high, asleep := col .pass .high },
    dropAsleep (col .pass .high),
    dropAsleep (col .pass .normal),
    dropAsleep (col (.changeOnly 10 255) .low),
    { awake := col .pass .high, asleep := col .pass .high },
    { awake := col .pass .high, asleep := col .pass .high },
    dropAsleep (col (.decimate 64) .low),
    dropAsleep (col .pass .normal) ]

/-- Forwarding state at a reset (R168). -/
def forwardingReset : Forwarding :=
  { counter := 0, last := none, suppressed := 0, acc := [], flush := .cancelled }

/-- R168: the HOLD level is the input's level at the reset. -/
def ufeReset (hold : Bool) : Ufe :=
  { queue := [], sending := none, finalLost := none, hold := hold, column := .awake
    active := defaultRoutes, pending := defaultRoutes, fwd := List.replicate 12 forwardingReset
    gaps := List.replicate 15 0 }

/-- The power-on values of 11.1, with the rate from RATE_SEL (R170, R182). -/
def hlmReset (fastLink : Bool) : Hlm :=
  { fastLink := fastLink, rx := [], gapTimer := .cancelled, queue := [], head := .idle, busy := false
    checkErrors := 0, kindErrors := 0, lengthErrors := 0, gapErrors := 0, overruns := 0, lastLost := none
    busyOn := 6, busyOff := 2 }

end Sys2Proof.Machine
end

