-- ==== Sys2Proof/Machine/State.lean ====
section
/-! DEFINITION. The machine's state as plain data, the reasons a step could stop, and the state after a
power-on reset. -/

namespace Sys2Proof.Machine

/-- The faults: none. The manual names no condition in which the part stops, so no command faults. -/
inductive Fault where
  deriving DecidableEq, Repr

/-- The refusals. -/
inductive Refusal where
  /-- Raised only by an arm of `exec` whose command has no meaning yet; no arm is left so. Safe. -/
  | notModelled (mnemonic : String)
  deriving DecidableEq, Repr

/-- The whole part. `pending` is the queue of commands waiting from outside, first in first out. `inflight` holds
the deliveries the blocks have issued and not yet taken, oldest first, each as the command that takes it.
`freeCount` is the model's own counter of free values (log 7). -/
structure State where
  partTime : PartTime
  lif : Lif
  lsp : Lsp
  dlc : Dlc
  hae : Hae
  rot : RotUnit
  pcl : Pcl
  alu : Alu
  ssu : Ssu
  pch : Pch
  swa : Swa
  ufe : Ufe
  hlm : Hlm
  inflight : List Instr
  freeCount : Nat
  pending : List Instr
  deriving DecidableEq, Repr

/-- The machine right after a power-on reset with RATE_SEL low and HOLD clear (log 11). -/
def State.reset : State :=
  { partTime := 0, lif := lifReset, lsp := lspReset, dlc := dlcReset, hae := haeReset, rot := rotReset
    pcl := pclReset, alu := aluReset, ssu := ssuReset, pch := pchReset, swa := swaReset
    ufe := ufeReset false, hlm := hlmReset false, inflight := [], freeCount := 0, pending := [] }

end Sys2Proof.Machine
end

