-- ==== Sys2Proof/Machine/Ops.lean ====
section
/-! DEFINITION. The operations the blocks share: writing a block, issuing a delivery, starting a timer, and
the number conventions of 0.5 (saturation, clamping, circular difference, direction). -/

namespace Sys2Proof.Machine

/-! ### Writing one block of the state -/

def State.setLif (s : State) (b : Lif) : State := { s with lif := b }
def State.setLsp (s : State) (b : Lsp) : State := { s with lsp := b }
def State.setDlc (s : State) (b : Dlc) : State := { s with dlc := b }
def State.setHae (s : State) (b : Hae) : State := { s with hae := b }
def State.setRot (s : State) (b : RotUnit) : State := { s with rot := b }
def State.setPcl (s : State) (b : Pcl) : State := { s with pcl := b }
def State.setAlu (s : State) (b : Alu) : State := { s with alu := b }
def State.setSsu (s : State) (b : Ssu) : State := { s with ssu := b }
def State.setPch (s : State) (b : Pch) : State := { s with pch := b }
def State.setSwa (s : State) (b : Swa) : State := { s with swa := b }
def State.setUfe (s : State) (b : Ufe) : State := { s with ufe := b }
def State.setHlm (s : State) (b : Hlm) : State := { s with hlm := b }

/-! ### Deliveries -/

/-- The block issues deliveries, in the order given: each waits in flight until the command that takes it. -/
def State.emits (s : State) (cs : List Instr) : State := { s with inflight := s.inflight ++ cs }

/-- The block issues one delivery. -/
def State.emit (s : State) (c : Instr) : State := s.emits [c]

/-- The block offers a record to the UFE (R155: each offer is one event there). -/
def State.offer (s : State) (r : Record) : State := s.emit (.recordOffer r)

/-- The delivery that command `c` takes leaves flight, if it is there (log 2). -/
def State.took (s : State) (c : Instr) : State := { s with inflight := s.inflight.erase c }

/-! ### Time (0.5) -/

/-- The timestamp of a record offered now. -/
def State.stamp (s : State) : Stamp := s.partTime.setWidth 16

/-- A timer started now with `ms` to run. -/
def State.timer (s : State) (ms : Nat) : Timer := .running (s.partTime + BitVec.ofNat 32 ms)

/-- Whether a timer is running. -/
def Timer.isRunning : Timer → Bool
  | .cancelled => false
  | .running _ => true

/-- Whether a timer is due at part time `now`: it runs, and its expiry is not after `now`, told by the half of the part
time's range that the difference lies in. A timer cancelled or restarted before its expiry is taken has no expiry (log 5). -/
def Timer.due (now : PartTime) : Timer → Bool
  | .cancelled => false
  | .running expiry => (now - expiry).toNat < 2 ^ 31

/-! ### Numbers (0.5) -/

/-- Saturation to the sample range −32768..32767. -/
def sat16 (v : Int) : Int := max (-32768) (min v 32767)

/-- A value clamped to `lo..hi`. -/
def clampInt (lo hi v : Int) : Int := if v < lo then lo else if hi < v then hi else v

/-- A natural value clamped to `0..hi` from an integer. -/
def clampNat (hi : Nat) (v : Int) : Nat := (clampInt 0 hi v).toNat

/-- A count increased by `n` that stops at its maximum (0.5: saturating counts). -/
def satAdd (top count n : Nat) : Nat := min top (count + n)

/-- The signed circular difference from direction `a` to direction `b`, −2879..2880 (0.5). -/
def circDiff (a b : Nat) : Int :=
  let d := ((b : Int) - (a : Int)) % 5760
  if d ≤ 2880 then d else d - 5760

/-- The circular distance between two directions, 0..2880 (0.5). -/
def circDist (a b : Nat) : Nat := (circDiff a b).natAbs

/-- cos and sin of 2^k half angle units (2^k/32 degree), times 2^64, largest angle first. DEDUCED (log 9). -/
def halfUnitTurns : List (Nat × Int × Int) :=
  [ (2048, 8086520354116673787, 16579823747054587077),
    (1024, 15643726191994218747, 9775285047038399446),
    (512, 17732148492834176429, 5084611759910200732),
    (256, 18267221628442365087, 2567290575354868340),
    (128, 18401808732276110234, 1286779818642319329),
    (64, 18435506815634191792, 643782083972305837),
    (32, 18443934545238314447, 321940075018930070),
    (16, 18446041678219208318, 160976166988645413),
    (8, 18446568474001174460, 80488849690160667),
    (4, 18446700173730220244, 40244520619901969),
    (2, 18446733098711453954, 20122272281814373),
    (1, 18446741329959823149, 10061137637390444) ]

/-- The number of whole half angle units in the angle of a vector of the first quadrant: the vector is turned
back by each power of two of half units that leaves it above the +u axis. -/
def halfUnits : List (Nat × Int × Int) → Int → Int → Nat
  | [], _, _ => 0
  | (n, c, sn) :: rest, a, b =>
    if 0 ≤ b * c - a * sn then n + halfUnits rest (a * c + b * sn) (b * c - a * sn)
    else halfUnits rest a b

/-- The direction of a vector with `0 < a` and `0 ≤ b`, in 0..1440, rounded to the nearest unit. No such vector of
sample values lies halfway between two units (log 9), so the ties-to-even rule of R53 is never met. -/
def quadrantDirection (a b : Int) : Nat := (halfUnits halfUnitTurns a b + 1) / 2

/-- The direction of the vector (u, v) in 0..5759 (R53), a quarter turn at a time. -/
def direction (u v : Int) : Nat :=
  if 0 < u ∧ 0 ≤ v then quadrantDirection u v % 5760
  else if u ≤ 0 ∧ 0 < v then (1440 + quadrantDirection v (-u)) % 5760
  else if u < 0 ∧ v ≤ 0 then (2880 + quadrantDirection (-u) (-v)) % 5760
  else if 0 ≤ u ∧ v < 0 then (4320 + quadrantDirection (-v) u) % 5760
  else Config.zeroDirection

end Sys2Proof.Machine
end

