-- ==== Sys2Proof/Machine/Formats.lean ====
section
/-! DEFINITION. The byte layouts the part sends (11.7): codes of enumerations, record payloads, host frames,
POLLs, table rows and status sections. -/

namespace Sys2Proof.Machine

/-! ### Bytes (11.7: little-endian, two's complement) -/

/-- The low byte of a number. -/
def byteOf (n : Nat) : Byte := BitVec.ofNat 8 n

/-- A yes/no byte. -/
def flag (b : Bool) : Byte := if b then 1 else 0

/-- Two bytes, little-endian. -/
def le16 (n : Nat) : List Byte := [byteOf n, byteOf (n / 256)]

/-- Four bytes, little-endian. -/
def le32 (n : Nat) : List Byte := le16 n ++ le16 (n / 65536)

/-- A signed 16-bit value. -/
def leInt16 (v : Int) : List Byte := le16 (BitVec.ofInt 16 v).toNat

/-- A signed 32-bit value. -/
def leInt32 (v : Int) : List Byte := le32 (BitVec.ofInt 32 v).toNat

/-- A timestamp. -/
def leStamp (ts : Stamp) : List Byte := le16 ts.toNat

/-- The three axes of a vector, signed. -/
def leVec (v : Vec3) : List Byte := leInt16 v.x ++ leInt16 v.y ++ leInt16 v.z

/-- An angle of two bytes, 0xFFFF for UNKNOWN or none (11.7). -/
def leAngle (a : Option Nat) : List Byte := le16 (a.getD 0xFFFF)

/-- `n` bytes the manual states no value for, at place `pos` of the data (log 7). -/
def fillers (free pos n : Nat) : List Byte := (List.range n).map fun i => Config.freeByte free (pos + i)

/-- A presence byte and the value, or 0 and bytes the manual does not state (log 7). `pos` is the place of the
value's first byte, `n` its width. -/
def optional (free pos n : Nat) : Option (List Byte) → List Byte
  | some bs => 1 :: bs
  | none => 0 :: fillers free pos n

/-! ### CHECK (R171) -/

/-- One shift of the CRC-8 register. -/
def crcShift (r : Byte) : Byte := if r.msb then (r <<< 1) ^^^ 0x07 else r <<< 1

/-- One byte added to the register: exclusive-or, then eight shifts. -/
def crcByte (r b : Byte) : Byte :=
  crcShift (crcShift (crcShift (crcShift (crcShift (crcShift (crcShift (crcShift (r ^^^ b))))))))

/-- CHECK over a list of bytes, from a register of 0. -/
def crc8 (bs : List Byte) : Byte := bs.foldl crcByte 0

/-! ### Enumeration codes: the position in the owning chapter's list (11.7) -/

def Line.code : Line → Nat
  | .frontHall => 0 | .rearHall => 1 | .dockContact => 2 | .penContact => 3

def PortState.code : PortState → Nat
  | .running => 0 | .stalled => 1 | .off => 2

def ReadOutcome.code : ReadOutcome → Nat
  | .none => 0 | .good => 1 | .noNewData => 2 | .idMismatch => 3

def DockState.code : DockState → Nat
  | .absent => 0 | .unpowered => 1 | .attaching => 2 | .attached => 3 | .mute => 4

def FailKind.code : FailKind → Nat
  | .miss => 1 | .corrupt => 2 | .malformed => 3

def IdMatch.code : IdMatch → Nat
  | .unknown => 0 | .matched => 1 | .mismatched => 2

def Gate.code : Gate → Nat
  | .pass => 0 | .block => 1

def DockEventKind.code : DockEventKind → Nat
  | .attached => 0 | .mute => 1 | .recovered => 2 | .detached => 3 | .unpowered => 4 | .itemsDropped => 5

def Quality.code : Quality → Nat
  | .noData => 0 | .good => 1 | .moving => 2 | .axisVertical => 3 | .stale => 4 | .hallConflict => 5 | .noBase => 6

def BaseFace.code : BaseFace → Nat
  | .up => 0 | .down => 1 | .edge => 2 | .unknown => 3

def Rot.code : Rot → Nat
  | .rot0 => 0 | .rot90 => 1 | .rot180 => 2 | .rot270 => 3

def RotCause.code : RotCause → Nat
  | .dwell => 0 | .forced => 1

def Policy.code : Policy → Nat
  | .free => 0 | .hold => 1 | .forceRot0 => 2

def Posture.code : Posture → Nat
  | .closed => 0 | .laptop => 1 | .flat => 2 | .stand => 3 | .tent => 4 | .tablet => 5 | .slate => 6

/-- The posture byte where it may be UNKNOWN, 7 (11.7). -/
def postureByte (p : Option Posture) : Byte := byteOf ((p.map Posture.code).getD 7)

def Allowance.code : Allowance → Nat
  | .allow => 0 | .reduced => 1 | .deny => 2

def SleepClass.code : SleepClass → Nat
  | .none => 0 | .idle => 1 | .closed => 2

def DockCondition.code : DockCondition → Nat
  | .attached => 0 | .notAttached => 1

def LineMode.code : LineMode → Nat
  | .direct => 0 | .triggered => 1

def Rearm.code : Rearm → Nat
  | .once => 0 | .every => 1

def Trigger.code : Trigger → Nat
  | .postureLeave _ => 0 | .postureEnter _ => 1 | .platformAsleep => 2 | .platformAwake => 3
  | .dockAttached => 4 | .dockAbsent => 5 | .penInserted => 6 | .chargerFault => 7

/-- The posture a trigger names, if it is of a posture kind. -/
def Trigger.posture : Trigger → Option Posture
  | .postureLeave p => some p
  | .postureEnter p => some p
  | _ => none

def StageKind.code : StageKind → Nat
  | .precharge => 0 | .bulk => 1 | .taper => 2 | .topup => 3

def LimitAction.code : LimitAction → Nat
  | .next => 0 | .fault => 1

def Platform.code : Platform → Nat
  | .awake => 0 | .asleep => 1

def AdviceReason.code : AdviceReason → Nat
  | .lidClosed => 0 | .idle => 1

def Activity.code : Activity → Nat
  | .key => 0 | .pointer => 1 | .posture => 2 | .rotation => 3 | .dock => 4 | .pen => 5 | .motion => 6

/-- A reason's bit number, as in section 9 (11.7.5). -/
def WakeReason.code : WakeReason → Nat
  | .lidOpened => 0 | .key => 1 | .pointer => 2 | .dockAttached => 3 | .dockDetached => 4
  | .penInserted => 5 | .penRemoved => 6 | .motion => 7 | .recentActivity => 8

def FrameClass.code : FrameClass → Nat
  | .high => 0 | .normal => 1 | .low => 2

def HeadState.code : HeadState → Nat
  | .idle => 0 | .executing => 1 | .waitingForDockRoom => 2 | .resetting => 3

def Status.code : Status → Nat
  | .ok => 0 | .adjusted => 1 | .refusedRow => 2 | .badRequest => 3 | .badIndex => 4 | .badState => 5

/-- The stream id (10.1). -/
def Stream.id : Stream → Nat
  | .lidSample => 0 | .baseSample => 1 | .hinge => 2 | .rotation => 3 | .posture => 4 | .key => 5
  | .pointer => 6 | .dockStatus => 7 | .dockEvent => 8 | .penEvent => 9 | .chargeTelemetry => 10
  | .lineEvent => 11 | .sleep => 12 | .response => 13 | .fault => 14

/-- The charger state code (11.7.5). -/
def ChargerState.code : ChargerState → Nat
  | .empty => 0 | .probe => 1 | .charging _ => 2 | .done => 3
  | .paused .probe _ _ => 4 | .paused (.charging _) _ _ => 5
  | .fault .overcurrent _ => 6 | .fault .stageTimeout _ => 7

/-- The stage index of CHARGING and PAUSED(CHARGING), or none (R135). -/
def ChargerState.stage : ChargerState → Option Nat
  | .charging k => some k
  | .paused (.charging k) _ _ => some k
  | _ => none

/-- The stage index that GET_STATUS reports: FAULT keeps the one it was entered from (R132, R136). -/
def ChargerState.reportedStage : ChargerState → Option Nat
  | .fault _ stage => stage
  | st => st.stage

/-- The reasons held, DENY bit 0 and BUDGET bit 1. They are held in PAUSED alone (8.1). -/
def ChargerState.reasons : ChargerState → Byte
  | .paused _ deny budget => flag deny ||| (flag budget <<< 1)
  | _ => 0

/-! ### Records (11.7.6) -/

/-- A record's stream (10.1). -/
def Record.stream : Record → Stream
  | .lidSample .. => .lidSample | .baseSample .. => .baseSample | .hinge .. => .hinge
  | .rotation .. => .rotation | .posture .. => .posture | .key .. => .key | .pointer .. => .pointer
  | .dockStatus .. => .dockStatus | .dockEvent .. => .dockEvent | .penEvent .. => .penEvent
  | .chargeTelemetry .. => .chargeTelemetry | .lineEvent .. => .lineEvent | .sleep .. => .sleep
  | .response .. => .response | .fault .. => .fault

/-- The timestamp bytes a payload ends with; a RESPONSE has none (11.7.2). -/
def Record.stampBytes : Record → List Byte
  | .lidSample _ ts | .baseSample _ ts | .hinge _ _ _ ts | .rotation _ _ _ ts | .posture _ _ _ _ _ ts
  | .key _ _ _ ts | .pointer _ _ _ _ _ ts | .dockStatus _ _ _ ts | .dockEvent _ _ _ ts | .penEvent _ _ ts
  | .chargeTelemetry _ _ _ _ _ ts | .lineEvent _ _ ts | .sleep _ ts | .fault _ ts => leStamp ts
  | .response .. => []

/-- The kind, reason and detail of a SLEEP record. -/
def SleepEvent.bytes : SleepEvent → List Byte
  | .advice reason cls => [0, byteOf reason.code] ++ le16 cls.code
  | .withdrawn reason .sleepClass => [1, byteOf reason.code] ++ le16 0
  | .withdrawn reason (.activity a) => [1, byteOf reason.code] ++ le16 (1 + a.code)
  | .wake reason set => [2, byteOf reason.code] ++ le16 set.toNat

/-- The kind, the two detail bytes and the last field of a FAULT record. -/
def FaultEvent.bytes : FaultEvent → List Byte
  | .lidPortStalled => [0, 0, 0] ++ le16 0
  | .charger .overcurrent stage current => [1, byteOf (stage.getD 0), 0] ++ le16 current
  | .charger .stageTimeout stage current => [2, byteOf (stage.getD 0), 0] ++ le16 current
  | .downstreamOverrun kind tag => [3, 0, kind] ++ le16 tag.toNat

/-- The 32-bit word of a CHARGE_TELEMETRY record: duty, I and duty ceiling. -/
def telemetryWord (duty current ceiling : Nat) : Nat :=
  duty % 1024 + current % 2048 * 1024 + ceiling % 1024 * 2097152

/-- A record's payload without its timestamp. -/
def Record.valueBytes : Record → List Byte
  | .lidSample v _ => leVec v
  | .baseSample v _ => leVec v
  | .hinge reported quality raw _ => leAngle reported ++ [byteOf quality.code] ++ leAngle raw
  | .rotation old new cause _ => [byteOf old.code, byteOf new.code, byteOf cause.code]
  | .posture old new row angle dock _ =>
    [postureByte old, byteOf new.code, byteOf row] ++ leAngle angle ++ [byteOf dock.code]
  | .key synthetic modifier codes _ => [flag synthetic, modifier, byteOf codes.length] ++ codes
  | .pointer synthetic dx dy buttons wheel _ => [flag synthetic, dx, dy, buttons.setWidth 8, wheel]
  | .dockStatus draw identity faultBits _ => le16 draw ++ [identity, faultBits]
  | .dockEvent kind state undelivered _ => [byteOf kind.code, byteOf state.code, byteOf undelivered]
  | .penEvent inserted state _ => [if inserted then 0 else 1, byteOf state.code]
  | .chargeTelemetry state rowKind duty current ceiling _ =>
    [byteOf (state.code * 16 + state.stage.getD 15), (rowKind.map fun k => byteOf k.code).getD 0xFF]
      ++ le32 (telemetryWord duty current ceiling)
  | .lineEvent line asserted _ => [byteOf line.code, flag asserted]
  | .sleep event _ => event.bytes
  | .response tag code status row data _ => [tag, code, byteOf status.code, row] ++ data
  | .fault event _ => event.bytes

/-- A record's payload (11.7.6). -/
def Record.payload (r : Record) : List Byte := r.valueBytes ++ r.stampBytes

/-- A batch payload: count, first and last timestamp, and the records without theirs (11.7.1). -/
def batchPayload (rs : List Record) : List Byte :=
  byteOf rs.length :: ((rs.head?.map Record.stampBytes).getD [] ++ (rs.getLast?.map Record.stampBytes).getD [])
    ++ rs.flatMap Record.valueBytes

/-! ### Frames on the wires (11.7.1, 11.7.7) -/

/-- The KIND of a frame. -/
def Frame.kind (f : Frame) : Byte := byteOf ((if f.batch then 0x20 else 0) + f.stream.id)

/-- The bytes of a frame in transmission on HL_TX: SYNC, KIND, LEN, GAP, payload, CHECK (R171). -/
def Sending.wire (t : Sending) : List Byte :=
  let body := [t.frame.kind, byteOf t.frame.payload.length, byteOf t.gap] ++ t.frame.payload
  0xC3 :: body ++ [crc8 body]

/-- One byte on the host link or the dock wire, bit by bit (R170, 11.7.7): the start bit, the eight data bits from the least
significant one on, and one stop bit, with no parity bit. DESIGN CHOICE (log 38): the start bit is low, the stop bit and a
data bit of 1 are high; R170 gives no levels. -/
def characterBits (b : Byte) : List Bool := false :: (List.range 8).map b.getLsbD ++ [true]

/-- The bits of a frame in transmission on HL_TX (R170). -/
def Sending.line (t : Sending) : List Bool := t.wire.flatMap characterBits

/-- The bytes of a POLL (11.7.7). -/
def pollWire (number : Byte) (item : Option (List Byte)) : List Byte :=
  let body :=
    match item with
    | some bytes => [number, byteOf bytes.length] ++ bytes
    | none => [number, 0xFF]
  0xA5 :: body ++ [crc8 body]

/-! ### Table rows (11.7.3) -/

/-- A mount source byte: the axis, and 1 for the sign −. -/
def Source.code (s : Source) : Nat :=
  (match s.axis with | .x => 0 | .y => 2 | .z => 4) + (if s.negate then 1 else 0)

/-- A mount record, 10 bytes. -/
def Mount.bytes (m : Mount) : List Byte :=
  [byteOf m.srcX.code, byteOf m.srcY.code, byteOf m.srcZ.code] ++ leVec m.offset ++ [m.identity]

/-- A posture row, 23 bytes; `pos` is the place of its first byte. -/
def PostureRow.bytes (free pos : Nat) (r : PostureRow) : List Byte :=
  [flag r.inUse, byteOf r.posture.code]
  ++ optional free (pos + 3) 4 (r.hinge.map fun h => le16 h.1 ++ le16 h.2)
  ++ [flag r.needGood]
  ++ optional free (pos + 9) 1 (r.dock.map fun c => [byteOf c.code])
  ++ optional free (pos + 11) 1 (r.front.map fun a => [if a then 0 else 1])
  ++ optional free (pos + 13) 1 (r.rear.map fun a => [if a then 0 else 1])
  ++ optional free (pos + 15) 1 (r.face.map fun f => [byteOf f.code])
  ++ le16 r.dwell
  ++ [byteOf r.out.keyGate.code, byteOf r.out.pointerGate.code, byteOf r.out.policy.code,
      byteOf r.out.allowance.code, byteOf r.out.sleep.code]

/-- An action's code (10.2.1). -/
def RouteAction.code : RouteAction → Nat
  | .pass => 0 | .drop => 1 | .decimate _ => 2 | .changeOnly _ _ => 3 | .batch _ _ => 4

/-- An action's first and second parameter. -/
def RouteAction.params : RouteAction → Option Nat × Option Nat
  | .pass => (none, none)
  | .drop => (none, none)
  | .decimate n => (some n, none)
  | .changeOnly d m => (some d, some m)
  | .batch b f => (some b, some f)

/-- A route column, 8 bytes: action, class and two parameters, each with its presence byte. -/
def RouteColumn.bytes (free pos : Nat) (c : RouteColumn) : List Byte :=
  [byteOf c.action.code, byteOf c.cls.code]
  ++ optional free (pos + 3) 2 (c.action.params.1.map le16)
  ++ optional free (pos + 6) 2 (c.action.params.2.map le16)

/-- A route entry, both columns. -/
def RouteEntry.bytes (free pos : Nat) (e : RouteEntry) : List Byte :=
  e.awake.bytes free pos ++ e.asleep.bytes free (pos + 8)

/-- A profile row, 10 bytes. -/
def ProfileRow.bytes (free pos : Nat) (r : ProfileRow) : List Byte :=
  [flag r.inUse, byteOf r.kind.code] ++ le16 r.target ++ le16 r.limit ++ [byteOf r.action.code]
  ++ optional free (pos + 8) 2 (r.exitBelow.map le16)

/-- An action line record, 9 bytes, with armed last. -/
def ActionLine.bytes (free pos : Nat) (l : ActionLine) : List Byte :=
  [flag l.invert, byteOf l.mode.code, flag l.level, flag l.staged, byteOf l.trigger.code]
  ++ optional free (pos + 6) 1 (l.trigger.posture.map fun p => [byteOf p.code])
  ++ [byteOf l.rearm.code, flag l.armed]

/-- Rows laid out one after another, each told its place. -/
def rowsBytes {α : Type} (size : Nat) (enc : Nat → α → List Byte) : Nat → List α → List Byte
  | _, [] => []
  | i, r :: rs => enc (i * size) r ++ rowsBytes size enc (i + 1) rs

/-! ### Status sections (11.7.5) -/

/-- A sample as mapped x, y, z and the low 16 bits of its part time (R17, R42). -/
def Sample.statusBytes (p : Sample) : List Byte := leVec p.v ++ leStamp (p.time.setWidth 16)

/-- Section 1: LIF and LSP (R17). -/
def statusLines (s : State) : List Byte :=
  [flag s.lif.frontHall.level ||| (flag s.lif.rearHall.level <<< 1) ||| (flag s.lif.dockContact.level <<< 2)
     ||| (flag s.lif.penContact.level <<< 3),
   byteOf s.lsp.port.code, byteOf s.lsp.streak, byteOf s.lsp.outcome.code]
  ++ optional s.freeCount 5 8 (s.lsp.last.map Sample.statusBytes)

/-- Section 2: DLC (R42). -/
def statusDock (s : State) : List Byte :=
  [byteOf s.dlc.state.code, byteOf s.dlc.missStreak]
  ++ (match s.dlc.lastError with
      | some e => [byteOf e.kind.code, e.poll] ++ le32 e.time.toNat
      | none => 0 :: fillers s.freeCount 3 5)
  ++ [s.dlc.nextPoll, byteOf s.dlc.queue.length,
      (s.dlc.queue.head?.map fun i => byteOf i.offers).getD (Config.freeByte s.freeCount 10),
      byteOf s.dlc.undelivered]
  ++ le16 s.dlc.draw
  ++ optional s.freeCount 15 1 (s.dlc.identity.map fun b => [b])
  ++ [s.dlc.faultBits, byteOf s.dlc.idMatch.code,
      flag (s.dlc.heldModifier != 0 || !s.dlc.heldCodes.isEmpty), s.dlc.heldButtons.setWidth 8]
  ++ optional s.freeCount 21 8 (s.dlc.lastBase.map Sample.statusBytes)

/-- Section 3: HAE (R66). -/
def statusHinge (s : State) : List Byte :=
  optional s.freeCount 1 6 (s.hae.lid.map fun f => leVec f.v)
  ++ optional s.freeCount 8 6 (s.hae.base.map fun f => leVec f.v)
  ++ [flag s.hae.lidMoving ||| (flag s.hae.baseMoving <<< 1)]
  ++ leAngle s.hae.raw ++ leAngle s.hae.tracked ++ leAngle s.hae.reported
  ++ [byteOf s.hae.quality.code, byteOf s.hae.face.code]

/-- Section 4: ROT (R77). -/
def statusRotation (s : State) : List Byte :=
  [byteOf s.rot.rot.code, (s.rot.candidate.map fun r => byteOf r.code).getD 0xFF, flag s.rot.lock,
   byteOf s.rot.policy.code] ++ leAngle s.rot.angle

/-- The posture of row `i` of a bank. -/
def rowPosture (bank : List PostureRow) (i : Nat) : Option Posture := (bank[i]?).map PostureRow.posture

/-- Section 5: PCL (R99). -/
def statusPosture (s : State) : List Byte :=
  [postureByte s.pcl.posture, (s.pcl.row.map byteOf).getD 0xFF, (s.pcl.candidate.map byteOf).getD 0xFF,
   ((s.pcl.candidate.bind (rowPosture s.pcl.active)).map fun p => byteOf p.code).getD 0xFF, flag s.pcl.noMatch,
   byteOf s.pcl.published.keyGate.code, byteOf s.pcl.published.pointerGate.code,
   byteOf s.pcl.published.policy.code, byteOf s.pcl.published.allowance.code,
   byteOf s.pcl.published.sleep.code]

/-- Section 6: ALU (R107). -/
def statusActions (s : State) : List Byte :=
  [s.alu.al0, s.alu.al1, s.alu.al2, s.alu.al3].flatMap fun l => [flag l.level, flag l.armed]

/-- Section 7: SSU (R119). -/
def statusSupply (s : State) : List Byte :=
  le16 s.ssu.draw ++ [byteOf s.ssu.allowance.code] ++ le16 s.ssu.railBudget ++ le16 s.ssu.coilCeiling
  ++ le16 s.ssu.dutyCeiling ++ [flag s.ssu.budgetPause]

/-- Section 8: PCH (R136). The stage byte of a state without a stage is not stated (log 7). -/
def statusCharger (s : State) : List Byte :=
  [byteOf s.pch.state.code, s.pch.state.reasons,
   (s.pch.state.reportedStage.map byteOf).getD (Config.freeByte s.freeCount 2)]
  ++ le32 s.pch.elapsed ++ [byteOf s.pch.probeCount] ++ le16 s.pch.staged ++ le16 s.pch.applied
  ++ [byteOf s.pch.ocStreak, byteOf s.pch.exitStreak] ++ le16 s.pch.lastCurrent
  ++ [flag s.pch.rechargeTimer.isRunning]

/-- Section 9: SWA (R154). -/
def statusSleep (s : State) : List Byte :=
  [byteOf s.swa.platform.code, (s.swa.advice.map fun a => byteOf (1 + a.code)).getD 0, byteOf s.swa.cls.code,
   flag s.swa.idleTimer.isRunning ||| (flag s.swa.holdTimer.isRunning <<< 1)]
  ++ optional s.freeCount 5 2 (s.swa.lastWake.map fun t => leStamp (t.setWidth 16))
  ++ [flag s.swa.wakeRaised] ++ le16 s.swa.wakeSet.toNat

/-- The number of queued frames of a class. -/
def classCount (c : FrameClass) (q : List Frame) : Nat := (q.filter fun f => f.cls == c).length

/-- Section 10: UFE (R169). -/
def statusUpstream (s : State) : List Byte :=
  [byteOf (classCount .high s.ufe.queue), byteOf (classCount .normal s.ufe.queue),
   byteOf (classCount .low s.ufe.queue)]
  ++ le32 ((s.ufe.queue.head?.map fun f => (s.partTime - f.time).toNat).getD 0xFFFFFFFF)
  ++ [flag s.ufe.sending.isSome, flag s.ufe.hold, byteOf s.ufe.column.code]
  ++ s.ufe.gaps.map byteOf ++ s.ufe.fwd.map fun f => byteOf f.acc.length

/-- Section 11: HLM (R178). -/
def statusLink (s : State) : List Byte :=
  [byteOf s.hlm.queue.length, byteOf s.hlm.head.code, flag s.hlm.busy]
  ++ le16 s.hlm.checkErrors ++ le16 s.hlm.kindErrors ++ le16 s.hlm.lengthErrors ++ le16 s.hlm.gapErrors
  ++ le16 s.hlm.overruns ++ optional s.freeCount 14 1 (s.hlm.lastLost.map fun t => [t])

/-- The snapshot of a section, 1..11, or none for another number (R178). -/
def statusSection (s : State) : Nat → Option (List Byte)
  | 1 => some (statusLines s)
  | 2 => some (statusDock s)
  | 3 => some (statusHinge s)
  | 4 => some (statusRotation s)
  | 5 => some (statusPosture s)
  | 6 => some (statusActions s)
  | 7 => some (statusSupply s)
  | 8 => some (statusCharger s)
  | 9 => some (statusSleep s)
  | 10 => some (statusUpstream s)
  | 11 => some (statusLink s)
  | _ => none

/-- The data of IDENTIFY (R178, 11.7.2). -/
def identifyData : List Byte := le16 0x00C7 ++ le16 0x0620 ++ [1] ++ [48, 40, 8, 4, 16, 12, 6, 4]

end Sys2Proof.Machine
end

