-- ==== Sys2Proof/Machine/Operands.lean ====
section
/-! DEFINITION. Reading the byte layouts the part receives (11.7): request payloads, table rows with the
structural faults their chapters list, and the dock's answers. -/

namespace Sys2Proof.Machine

/-! ### Fields -/

/-- A two-byte value, little-endian. -/
def word16 (lo hi : Byte) : Nat := lo.toNat + 256 * hi.toNat

/-- A signed two-byte value. -/
def signed16 (lo hi : Byte) : Int := (BitVec.ofNat 16 (word16 lo hi)).toInt

/-- A yes/no byte: 0 or 1, or a fault (R179). -/
def readFlag (b : Byte) : Option Bool := if b = 0 then some false else if b = 1 then some true else none

/-- An enumeration byte: a position in the list, or a fault (R179). -/
def readEnum {α : Type} (values : List α) (b : Byte) : Option α := values[b.toNat]?

/-- A value that must lie in `lo..hi`. -/
def readRange (lo hi v : Nat) : Option Nat := if lo ≤ v ∧ v ≤ hi then some v else none

/-- A field behind a presence byte: absent, present with a value, or a fault. The value bytes of an absent
field are disregarded (log 12). -/
def readOptional {α : Type} (presence : Byte) (value : Option α) : Option (Option α) :=
  match readFlag presence with
  | some true => value.map some
  | some false => some none
  | none => none

/-- The posture list (5.1), whose positions code it (11.7). -/
def postureList : List Posture := [.closed, .laptop, .flat, .stand, .tent, .tablet, .slate]

/-! ### Rows (11.7.3) and their structural faults -/

/-- A mount source byte: +X 0, −X 1, +Y 2, −Y 3, +Z 4, −Z 5. -/
def readSource : Byte → Option Source :=
  readEnum [⟨.x, false⟩, ⟨.x, true⟩, ⟨.y, false⟩, ⟨.y, true⟩, ⟨.z, false⟩, ⟨.z, true⟩]

/-- Whether three axes name X, Y and Z once each. -/
def isPermutation (a b c : Axis) : Bool := a != b && b != c && a != c

/-- An offset, −2048..2047. -/
def readOffset (lo hi : Byte) : Option Int :=
  if -2048 ≤ signed16 lo hi ∧ signed16 lo hi ≤ 2047 then some (signed16 lo hi) else none

/-- A mount record, or none for a structural fault (R13, R39). -/
def readMount (_ : Nat) : List Byte → Option Mount
  | [sx, sy, sz, x0, x1, y0, y1, z0, z1, ident] => do
    let a ← readSource sx
    let b ← readSource sy
    let c ← readSource sz
    let x ← readOffset x0 x1
    let y ← readOffset y0 y1
    let z ← readOffset z0 z1
    if isPermutation a.axis b.axis c.axis && ident != 0x00 && ident != 0xFF then
      some { srcX := a, srcY := b, srcZ := c, offset := ⟨x, y, z⟩, identity := ident }
    else none
  | _ => none

/-- The hinge pair: each bound 0..5760, low not above high (R81). -/
def readHingePair (low high : Nat) : Option (Nat × Nat) :=
  if low ≤ high ∧ high ≤ 5760 then some (low, high) else none

/-- A posture row, or none for a structural fault (R81). -/
def readPostureRow (_ : Nat) : List Byte → Option PostureRow
  | [use, post, hp, l0, l1, h0, h1, good, dp, dc, fp, fc, rp, rc, bp, bc, d0, d1, kg, pg, rot, al, sl] => do
    let inUse ← readFlag use
    let posture ← readEnum postureList post
    let hinge ← readOptional hp (readHingePair (word16 l0 l1) (word16 h0 h1))
    let needGood ← readFlag good
    let dock ← readOptional dp (readEnum [.attached, .notAttached] dc)
    let front ← readOptional fp (readEnum [true, false] fc)
    let rear ← readOptional rp (readEnum [true, false] rc)
    let face ← readOptional bp (readEnum [BaseFace.up, .down, .edge] bc)
    let dwell ← readRange 0 5000 (word16 d0 d1)
    let keyGate ← readEnum [Gate.pass, .block] kg
    let pointerGate ← readEnum [Gate.pass, .block] pg
    let policy ← readEnum [Policy.free, .hold, .forceRot0] rot
    let allowance ← readEnum [Allowance.allow, .reduced, .deny] al
    let sleep ← readEnum [SleepClass.none, .idle, .closed] sl
    some { inUse, posture, hinge, needGood, dock, front, rear, face, dwell,
           out := { keyGate, pointerGate, policy, allowance, sleep } }
  | _ => none

/-- Whether an action code is allowed for a stream (10.2.1). -/
def actionAllowed (stream : Nat) : RouteAction → Bool
  | .pass => true
  | .drop => true
  | .decimate _ => stream != 4
  | .changeOnly _ _ => [0, 1, 2, 7, 10].contains stream
  | .batch _ _ => [0, 1, 10].contains stream

/-- An action from its code and its two parameters, with their ranges (10.2.1). A parameter that the action does
not have is a fault (R157; for DECIMATE's second one, log 13). -/
def readAction (code : Byte) (p q : Option Nat) : Option RouteAction :=
  match code.toNat, p, q with
  | 0, none, none => some .pass
  | 1, none, none => some .drop
  | 2, some n, none => (readRange 2 64 n).map .decimate
  | 3, some d, some m => do
    let deadband ← readRange 0 4095 d
    let maxHold ← readRange 1 255 m
    some (.changeOnly deadband maxHold)
  | 4, some b, some f => do
    let block ← readRange 2 8 b
    let flush ← readRange 1 1000 f
    some (.batch block flush)
  | _, _, _ => none

/-- A route column of stream `stream`, or none for a structural fault (R157). -/
def readColumn (stream : Nat) (act cls p p0 p1 q q0 q1 : Byte) : Option RouteColumn := do
  let first ← readOptional p (some (word16 p0 p1))
  let second ← readOptional q (some (word16 q0 q1))
  let action ← readAction act first second
  let cls ← readEnum [FrameClass.high, .normal, .low] cls
  if actionAllowed stream action then some { action, cls } else none

/-- A route entry; its table index is its stream (R157). -/
def readRouteEntry (stream : Nat) : List Byte → Option RouteEntry
  | [a, c, p, p0, p1, q, q0, q1, a', c', p', p0', p1', q', q0', q1'] => do
    let awake ← readColumn stream a c p p0 p1 q q0 q1
    let asleep ← readColumn stream a' c' p' p0' p1' q' q0' q1'
    some { awake, asleep }
  | _ => none

/-- A profile row, or none for a structural fault; row 0 must be in use (R133). -/
def readProfileRow (index : Nat) : List Byte → Option ProfileRow
  | [use, kd, t0, t1, l0, l1, act, ep, e0, e1] => do
    let inUse ← readFlag use
    let kind ← readEnum [StageKind.precharge, .bulk, .taper, .topup] kd
    let target ← readRange 10 1500 (word16 t0 t1)
    let limit ← readRange 1 65535 (word16 l0 l1)
    let action ← readEnum [LimitAction.next, .fault] act
    let exitBelow ← readOptional ep (readRange 5 1000 (word16 e0 e1))
    if index = 0 ∧ inUse = false then none
    else some { inUse, kind, target, limit, action, exitBelow }
  | _ => none

/-- A trigger: a posture exactly for the two posture kinds (R106). -/
def readTrigger (kind : Byte) (posture : Option Posture) : Option Trigger :=
  match kind.toNat, posture with
  | 0, some p => some (.postureLeave p)
  | 1, some p => some (.postureEnter p)
  | 2, none => some .platformAsleep
  | 3, none => some .platformAwake
  | 4, none => some .dockAttached
  | 5, none => some .dockAbsent
  | 6, none => some .penInserted
  | 7, none => some .chargerFault
  | _, _ => none

/-- An action line record, or none for a structural fault; the armed byte is disregarded and armed follows the
mode (R106). -/
def readActionLine (_ : Nat) : List Byte → Option ActionLine
  | [inv, md, lv, st, tk, tp, tpos, re, _] => do
    let invert ← readFlag inv
    let mode ← readEnum [LineMode.direct, .triggered] md
    let level ← readFlag lv
    let staged ← readFlag st
    let posture ← readOptional tp (readEnum postureList tpos)
    let trigger ← readTrigger tk posture
    let rearm ← readEnum [Rearm.once, .every] re
    some { invert, mode, level, staged, trigger, rearm, armed := mode == .triggered }
  | _ => none

/-! ### WRITE_ROWS (R179) -/

/-- What the checks of a WRITE_ROWS find: a status that refuses it, the lowest faulty table index, or the rows. -/
inductive RowCheck (α : Type) where
  | refused (status : Status)
  | faulty (index : Nat)
  | rows (rs : List α)

/-- The rows' bytes, row by row. -/
def splitRows (size : Nat) : Nat → List Byte → List (List Byte)
  | 0, _ => []
  | n + 1, bs => bs.take size :: splitRows size n (bs.drop size)

/-- The rows read in order from table index `i`, or the lowest faulty index. -/
def readAll {α : Type} (read : Nat → List Byte → Option α) : Nat → List (List Byte) → RowCheck α
  | _, [] => .rows []
  | i, r :: rs =>
    match read i r with
    | none => .faulty i
    | some a =>
      match readAll read (i + 1) rs with
      | .rows as => .rows (a :: as)
      | other => other

/-- The checks of a WRITE_ROWS in the order of R176: length, then index and count, then structure. -/
def checkRows {α : Type} (read : Nat → List Byte → Option α) (size tableSize : Nat) (start count : Byte)
    (bytes : List Byte) : RowCheck α :=
  if bytes.length ≠ count.toNat * size then .refused .badRequest
  else if count.toNat = 0 ∨ tableSize < start.toNat + count.toNat ∨ 56 < count.toNat * size then .refused .badIndex
  else readAll read start.toNat (splitRows size count.toNat bytes)

/-- A bank with consecutive rows replaced from an index on. -/
def replaceRows {α : Type} (bank : List α) (start : Nat) (rs : List α) : List α :=
  bank.take start ++ rs ++ bank.drop (start + rs.length)

/-! ### Requests (11.7.2) -/

/-- The command that a REQUEST's payload names. A payload whose code is unknown, whose length is not the code's, or
whose argument names no listed form falls to REQUEST_UNKNOWN_CODE, which answers BAD_REQUEST (R176 steps 1 and 2). -/
def requestCommand (tag : Byte) (payload : List Byte) : Instr :=
  match payload with
  | [] => .requestUnknownCode tag payload
  | code :: args =>
    match code.toNat, args with
    | 0x01, [] => .identify tag
    | 0x02, [sect] => .getStatus tag sect
    | 0x03, [id, a, b, c, d] => .setParam tag id (d ++ c ++ b ++ a)
    | 0x04, [id] => .getParam tag id
    | 0x05, table :: start :: count :: rows =>
      match table.toNat with
      | 0 => .writeRowsMountLid tag start count rows
      | 1 => .writeRowsMountBase tag start count rows
      | 2 => .writeRowsPosture tag start count rows
      | 3 => .writeRowsRoute tag start count rows
      | 4 => .writeRowsProfile tag start count rows
      | 5 => .writeRowsAction tag start count rows
      | _ => .requestUnknownCode tag payload
    | 0x06, [table, bank, start, count] => .readRows tag table bank start count
    | 0x07, [table] =>
      match table.toNat with
      | 2 => .commitPosture tag
      | 3 => .commitRoute tag
      | 4 => .commitProfile tag
      | _ => .requestUnknownCode tag payload
    | 0x08, [platform] =>
      match platform.toNat with
      | 0 => .setPlatformStateAwake tag
      | 1 => .setPlatformStateAsleep tag
      | _ => .requestUnknownCode tag payload
    | 0x09, [lock] => .setRotationLock tag lock
    | 0x0A, [line, level] => .setLine tag line level
    | 0x0B, [target] =>
      match target.toNat with
      | 0 => .clearCharger tag
      | 1 => .clearDockError tag
      | 2 => .clearLinkErrors tag
      | 3 => .clearNoMatch tag
      | _ => .requestUnknownCode tag payload
    | 0x0C, [port] =>
      match port.toNat with
      | 0 => .restartPortLid tag
      | 1 => .restartPortDock tag
      | _ => .requestUnknownCode tag payload
    | 0x0D, [port] => .portOff tag port
    | 0x0E, [] => .softReset tag
    | _, _ => .requestUnknownCode tag payload

/-- The TAG and the payload of a request, as the host lays them out (11.7.2); none for a command that no request names. -/
def requestBytes : Instr → Option (Byte × List Byte)
  | .identify tag => some (tag, [0x01])
  | .getStatus tag sect => some (tag, [0x02, sect])
  | .setParam tag id value => some (tag, [0x03, id, value.extractLsb' 0 8, value.extractLsb' 8 8,
      value.extractLsb' 16 8, value.extractLsb' 24 8])
  | .getParam tag id => some (tag, [0x04, id])
  | .writeRowsMountLid tag start count rows => some (tag, 0x05 :: 0 :: start :: count :: rows)
  | .writeRowsMountBase tag start count rows => some (tag, 0x05 :: 1 :: start :: count :: rows)
  | .writeRowsPosture tag start count rows => some (tag, 0x05 :: 2 :: start :: count :: rows)
  | .writeRowsRoute tag start count rows => some (tag, 0x05 :: 3 :: start :: count :: rows)
  | .writeRowsProfile tag start count rows => some (tag, 0x05 :: 4 :: start :: count :: rows)
  | .writeRowsAction tag start count rows => some (tag, 0x05 :: 5 :: start :: count :: rows)
  | .readRows tag table bank start count => some (tag, [0x06, table, bank, start, count])
  | .commitPosture tag => some (tag, [0x07, 2])
  | .commitRoute tag => some (tag, [0x07, 3])
  | .commitProfile tag => some (tag, [0x07, 4])
  | .setPlatformStateAwake tag => some (tag, [0x08, 0])
  | .setPlatformStateAsleep tag => some (tag, [0x08, 1])
  | .setRotationLock tag lock => some (tag, [0x09, lock])
  | .setLine tag line level => some (tag, [0x0A, line, level])
  | .clearCharger tag => some (tag, [0x0B, 0])
  | .clearDockError tag => some (tag, [0x0B, 1])
  | .clearLinkErrors tag => some (tag, [0x0B, 2])
  | .clearNoMatch tag => some (tag, [0x0B, 3])
  | .restartPortLid tag => some (tag, [0x0C, 0])
  | .restartPortDock tag => some (tag, [0x0C, 1])
  | .portOff tag port => some (tag, [0x0D, port])
  | .softReset tag => some (tag, [0x0E])
  | _ => none

/-- The command of a frame at the head of the downstream queue: the request it carries, or the hand-over of its
item (R175). -/
def DownFrame.command (f : DownFrame) : Instr :=
  match f.kind with
  | .request => requestCommand f.tag f.payload
  | .dockItem => .dockItemHandover f.payload

/-! ### Characters on HL_RX (R170) -/

/-- The byte of eight data bits, the least significant first. -/
def byteOfBits : List Bool → Byte
  | [] => 0
  | b :: bs => (byteOfBits bs <<< 1) ||| (if b then 1 else 0)

/-- The event that ten bits on HL_RX bring about: after a start bit, a byte of the eight data bits, with its stop bit or
without it (R170), at the levels that `characterBits` gives them (log 38). Bits that begin with no start bit are an idle
line. -/
def readCharacter : List Bool → Option Instr
  | [false, d0, d1, d2, d3, d4, d5, d6, d7, stop] => some (.byteReceived (byteOfBits [d0, d1, d2, d3, d4, d5, d6, d7]) stop)
  | _ => none

/-! ### Dock answers (R19, R20, 11.7.7) -/

/-- A record of an answer, as sent. -/
inductive DockRecord where
  | key (modifier : Byte) (codes : List Byte)
  | pointer (dx dy : Byte) (buttons : BitVec 3) (wheel : Byte)
  | baseMotion (x y z : Int) (newData : Bool)
  | status (draw : Nat) (identity faultBits : Byte)
  deriving DecidableEq, Repr

/-- A record as the dock sends it: kind, length, fields (11.7.7). -/
def DockRecord.bytes : DockRecord → List Byte
  | .key modifier codes => 1 :: byteOf (codes.length + 1) :: modifier :: codes
  | .pointer dx dy buttons wheel => [2, 4, dx, dy, buttons.setWidth 8, wheel]
  | .baseMotion x y z newData => [3, 7] ++ leInt16 x ++ leInt16 y ++ leInt16 z ++ [flag newData]
  | .status draw identity faultBits => [4, 4] ++ le16 draw ++ [identity, faultBits]

/-- A well-laid answer: 0x5A, the echoed poll number, the declared length, the consumed mark, the records and CHECK
(11.7.7). -/
def answerWire (echo : Byte) (consumed : Bool) (records : List DockRecord) : List Byte :=
  let body := flag consumed :: records.flatMap DockRecord.bytes
  let checked := echo :: byteOf body.length :: body
  0x5A :: checked ++ [crc8 checked]

/-- A record's kind code. -/
def DockRecord.kind : DockRecord → Nat
  | .key .. => 1 | .pointer .. => 2 | .baseMotion .. => 3 | .status .. => 4

/-- A mark byte: 0 clear, 1 set, another value as the configuration has it (log 8). -/
def readMark (b : Byte) : Bool := if b = 0 then false else if b = 1 then true else Config.markBeyond b

/-- The record of a kind and its field bytes, or none where the kind is undefined or the length does not fit.
The draw is taken as the smaller of the sent value and 1000 (R20). -/
def readDockRecord (kind : Byte) (fields : List Byte) : Option DockRecord :=
  match kind.toNat, fields with
  | 1, modifier :: codes => if codes.length ≤ 6 then some (.key modifier codes) else none
  | 2, [dx, dy, buttons, wheel] => some (.pointer dx dy (buttons.setWidth 3) wheel)
  | 3, [x0, x1, y0, y1, z0, z1, mark] =>
    some (.baseMotion (signed16 x0 x1) (signed16 y0 y1) (signed16 z0 z1) (readMark mark))
  | 4, [d0, d1, identity, faultBits] => some (.status (min (word16 d0 d1) 1000) identity faultBits)
  | _, _ => none

/-- The records laid out one after another, each kind, length, fields; none for a structural fault. The first
argument bounds the number of records read and is the list's length. -/
def readDockRecords : Nat → List Byte → Option (List DockRecord)
  | _, [] => some []
  | n + 1, kind :: len :: rest =>
    if rest.length < len.toNat then none
    else
      match readDockRecord kind (rest.take len.toNat), readDockRecords n (rest.drop len.toNat) with
      | some r, some rs => some (r :: rs)
      | _, _ => none
  | _, _ => none

/-- The end of an exchange (R19). -/
inductive AnswerOutcome where
  | failed (kind : FailKind)
  | good (consumed : Bool) (records : List DockRecord)
  deriving DecidableEq, Repr

/-- The contents of an answer between its declared length and CHECK: the consumed mark and the records. More than
four records, two of one kind, and every fault of `readDockRecords` are structural faults (R19). -/
def readAnswerBody : List Byte → AnswerOutcome
  | [] => .failed .malformed
  | mark :: body =>
    match readDockRecords body.length body with
    | none => .failed .malformed
    | some rs =>
      if 4 < rs.length ∨ ¬ (rs.map DockRecord.kind).Nodup then .failed .malformed
      else .good (readMark mark) rs

/-- The classification of an answer by the tests of R19 in order. Bytes short of the declared length are a cut-off
answer; CHECK covers every byte after the first (11.7.7). The value of the first byte is tested by no rule. -/
def classifyAnswer (awaited : Byte) (bytes : List Byte) : AnswerOutcome :=
  match bytes with
  | _ :: echo :: declared :: rest =>
    match rest[declared.toNat]? with
    | none => .failed .corrupt
    | some check =>
      if crc8 (echo :: declared :: rest.take declared.toNat) ≠ check then .failed .corrupt
      else if echo ≠ awaited then .failed .miss
      else readAnswerBody (rest.take declared.toNat)
  | _ => .failed .corrupt

end Sys2Proof.Machine
end

