-- ==== Sys2Proof/Machine/LinkQueue.lean ====
section
/-! DEFINITION. The downstream queue of the host link: BUSY, taking up the head, and answering a request
(R173 to R176). -/

namespace Sys2Proof.Machine

/-- BUSY after a frame joins (R174). -/
def Hlm.busyJoined (h : Hlm) : Bool := if h.busyOn ≤ h.queue.length then true else h.busy

/-- BUSY after a frame leaves (R174). -/
def Hlm.busyLeft (h : Hlm) : Bool := if h.queue.length ≤ h.busyOff then false else h.busy

/-- BUSY after a SET_PARAM of BUSY_ON or BUSY_OFF (R174). -/
def Hlm.busyJudged (h : Hlm) : Bool :=
  if h.busyOn ≤ h.queue.length then true else if h.queue.length ≤ h.busyOff then false else h.busy

/-- In IDLE, with a frame at the head, the HLM takes it up: a request enters EXECUTING and goes to its command, an
item is handed to the DLC (R175). -/
def takeUp (s : State) : State :=
  match s.hlm.head, s.hlm.queue with
  | .idle, f :: _ =>
    match f.kind with
    | .request => (s.setHlm { s.hlm with head := .executing }).emit f.command
    | .dockItem => s.emit f.command
  | _, _ => s

/-- The head frame leaves the queue, and BUSY follows. -/
def popHead (s : State) (head : HeadState) : State :=
  let h := { s.hlm with queue := s.hlm.queue.tail, head := head }
  s.setHlm { h with busy := h.busyLeft }

/-- The head frame leaves the queue, and the next head is taken up (R175). DESIGN CHOICE (log 40): the next head does not wait
for the deliveries that a request before it has issued to other blocks, which R105 leaves unordered with the RESPONSE; the
effects it finds complete are those in the state of each request's owner. -/
def departHead (s : State) : State := takeUp (popHead s .idle)

/-- A complete frame is added at the tail, or overruns a full queue (R173). -/
def joinQueue (kindByte : Byte) (f : DownFrame) (s : State) : State :=
  if s.hlm.queue.length < 8 then
    let h := { s.hlm with queue := s.hlm.queue ++ [f] }
    let s' := s.setHlm { h with busy := h.busyJoined }
    if s.hlm.queue = [] then takeUp s' else s'
  else
    (s.setHlm { s.hlm with overruns := satAdd 65535 s.hlm.overruns 1 }).offer
      (.fault (.downstreamOverrun kindByte f.tag) s.stamp)

/-- Whether the head frame is the request that command `c` executes. -/
def headIs (c : Instr) (s : State) : Bool :=
  match s.hlm.head, s.hlm.queue with
  | .executing, f :: _ => f.kind == .request && f.command == c
  | _, _ => false

/-- The request `c` is answered: one RESPONSE is offered, and then its frame leaves the head (R175, R176). A request
commanded while no such frame is at the head is carried out and answered all the same (log 4). -/
def answer (c : Instr) (tag code : Byte) (status : Status) (row : Byte) (data : List Byte) (s : State) : State :=
  let s' := s.offer (.response tag code status row data false)
  if headIs c s' then departHead s' else s'

/-- A request answered with a status alone: row index 0xFF and no data (R176). -/
def answerStatus (c : Instr) (tag code : Byte) (status : Status) (s : State) : State :=
  answer c tag code status 0xFF [] s

/-- A request answered OK with no data. -/
def answerOk (c : Instr) (tag code : Byte) (s : State) : State := answerStatus c tag code .ok s

/-- A WRITE_ROWS answered by what its checks found; rows that pass go to their owner (R179). -/
def answerRows {α : Type} (c : Instr) (tag : Byte) (found : RowCheck α) (write : List α → State → State)
    (s : State) : State :=
  match found with
  | .refused status => answerStatus c tag 0x05 status s
  | .faulty index => answer c tag 0x05 .refusedRow (byteOf index) [] s
  | .rows rs => answerOk c tag 0x05 (write rs s)

end Sys2Proof.Machine
end

