-- ==== Sys2Proof/Machine/ActionLines.lean ====
section
/-! DEFINITION. The action line unit (chapter 6, R101 to R110). -/

namespace Sys2Proof.Machine

/-- The pin of a line, high = true: the level, turned over by the invert field (R101). -/
def ActionLine.pin (l : ActionLine) : Bool := l.level != l.invert

/-- The record of line `i`, 0..3; any other index reads AL3. -/
def Alu.get (u : Alu) (i : Nat) : ActionLine :=
  match i with
  | 0 => u.al0
  | 1 => u.al1
  | 2 => u.al2
  | _ => u.al3

/-- The record of line `i`, 0..3, replaced; any other index replaces nothing. -/
def Alu.put (u : Alu) (i : Nat) (l : ActionLine) : Alu :=
  match i with
  | 0 => { u with al0 := l }
  | 1 => { u with al1 := l }
  | 2 => { u with al2 := l }
  | 3 => { u with al3 := l }
  | _ => u

/-- A record is written; a changed level of AL0 goes to the DLC (R101). -/
def putLine (i : Nat) (l : ActionLine) (s : State) : State :=
  let s' := s.setAlu (s.alu.put i l)
  if s'.alu.al0.level = s.alu.al0.level then s' else s'.emit (.al0LevelDelivery s'.alu.al0.level)

/-- Whether a line fires on a trigger (R104). -/
def ActionLine.fires (l : ActionLine) (t : Trigger) : Bool := l.mode == .triggered && l.armed && l.trigger == t

/-- A line after its firing (R104). -/
def ActionLine.fired (l : ActionLine) : ActionLine :=
  { l with level := l.staged, armed := match l.rearm with | .once => false | .every => l.armed }

/-- One line tested against a trigger. -/
def testLine (t : Trigger) (s : State) (i : Nat) : State :=
  if (s.alu.get i).fires t then putLine i (s.alu.get i).fired s else s

/-- TRIGGER_DELIVERY (R104): all four lines are tested. -/
def execTriggerDelivery (trigger : Trigger) (s : State) : Host.Outcome State Fault Refusal :=
  .next ([0, 1, 2, 3].foldl (testLine trigger) (s.took (.triggerDelivery trigger)))

/-- A line under a SET_LINE, by its mode (R105). -/
def ActionLine.request (l : ActionLine) (level : Bool) : ActionLine :=
  match l.mode with
  | .direct => { l with level := level }
  | .triggered => { l with staged := level, armed := true }

/-- SET_LINE (R105): the level is checked before the index (R176 steps 2 and 3). -/
def execSetLine (tag line level : Byte) (s : State) : Host.Outcome State Fault Refusal :=
  let c : Instr := .setLine tag line level
  let s' := s.took c
  match readFlag level with
  | none => .next (answerStatus c tag 0x0A .badRequest s')
  | some on =>
    if line.toNat < 4 then
      .next (answerOk c tag 0x0A (putLine line.toNat ((s'.alu.get line.toNat).request on) s'))
    else .next (answerStatus c tag 0x0A .badIndex s')

/-- Records replaced from index `i` on, in index order (R106). -/
def putLines : Nat → List ActionLine → State → State
  | _, [], s => s
  | i, l :: ls, s => putLines (i + 1) ls (putLine i l s)

/-- WRITE_ROWS_ACTION (R106). -/
def execWriteRowsAction (tag start count : Byte) (rows : List Byte) (s : State) :
    Host.Outcome State Fault Refusal :=
  let c : Instr := .writeRowsAction tag start count rows
  .next (answerRows c tag (checkRows readActionLine 9 4 start count rows) (putLines start.toNat) (s.took c))

end Sys2Proof.Machine
end

