-- ==== Sys2Proof/Machine/Charger.lean ====
section
/-! DEFINITION. The pen charger (chapter 8, R120 to R139). -/

namespace Sys2Proof.Machine

/-! ### Reasons, bound and entries (8.1, 8.3) -/

/-- Whether the reason DENY holds (R120). -/
def Pch.deny (p : Pch) : Bool := p.allowance == .deny

/-- Whether a pause reason holds (R120). -/
def Pch.hasReason (p : Pch) : Bool := p.deny || p.budgetPause

/-- The bound for a staging: the smaller of DUTY_MAX in force and the recorded duty ceiling (R120). -/
def State.bound (s : State) : Nat := min s.ssu.dutyMax s.pch.dutyCeiling

/-- The probe duty: 64, or the bound if lower (R124). -/
def State.probeDuty (s : State) : Nat := min 64 s.bound

/-- Entry into PROBE (R124). -/
def enterProbe (s : State) : State :=
  s.setPch { s.pch with
    state := .probe, staged := s.probeDuty, probeCount := 0, probePassed := false, exitStreak := 0, elapsed := 0 }

/-- Entry into PROBE, or into PAUSED with target PROBE if a pause reason holds (R122, R128, R132, R134). -/
def probeOrPause (s : State) : State :=
  if s.pch.hasReason then
    s.setPch { s.pch with state := .paused .probe s.pch.deny s.pch.budgetPause, staged := 0 }
  else enterProbe s

/-- Entry into DONE (R128). -/
def enterDone (s : State) : State :=
  s.setPch { s.pch with
    state := .done, staged := 0, ocStreak := 0, exitStreak := 0, elapsed := 0
    rechargeTimer := s.timer (s.pch.rechargeInterval * 1000) }

/-- Entry into FAULT with its record and trigger (R132). -/
def enterFault (kind : ChargerFault) (s : State) : State :=
  (s.setPch { s.pch with
      state := .fault kind s.pch.state.stage, staged := 0, ocStreak := 0, exitStreak := 0 }).emits
    [.recordOffer (.fault (.charger kind s.pch.state.stage s.pch.lastCurrent) s.stamp),
     .triggerDelivery .chargerFault]

/-- Entry into PAUSED at an interval end (R130). In PROBE the probe count is dropped. -/
def enterPaused (target : PauseTarget) (s : State) : State :=
  let p := { s.pch with state := .paused target s.pch.deny s.pch.budgetPause, staged := 0 }
  match target with
  | .probe => s.setPch { p with probeCount := 0, probePassed := false }
  | .charging _ => s.setPch p

/-! ### Insertion and removal -/

/-- A pen is inserted in EMPTY (R122). -/
def insertPen (s : State) : State :=
  let s' := probeOrPause (s.setPch { s.pch with ocStreak := 0 })
  s'.emits [.recordOffer (.penEvent true s'.pch.state s.stamp), .penInsertedOccurrence, .triggerDelivery .penInserted]

/-- PEN_INSERTION (R122). An assertion is always taken in EMPTY; in another state nothing is done (log 5). -/
def execPenInsertion (s : State) (time : PartTime := 0) : Host.Outcome State Fault Refusal :=
  let s' := s.took (.penInsertion time)
  if s'.pch.state = .empty then .next (insertPen s') else .next s'

/-- A pen is removed from a state other than EMPTY (R123). -/
def removePen (s : State) : State :=
  (s.setPch { s.pch with
      state := .empty, applied := 0, staged := 0, rechargeTimer := .cancelled, elapsed := 0, probeCount := 0
      probePassed := false, ocStreak := 0, exitStreak := 0 }).emits
    [.recordOffer (.penEvent false s.pch.state s.stamp), .penRemovedOccurrence]

/-- PEN_REMOVAL (R123). A clear is never taken in EMPTY; there nothing is done (log 5). -/
def execPenRemoval (s : State) (time : PartTime := 0) : Host.Outcome State Fault Refusal :=
  let s' := s.took (.penRemoval time)
  if s'.pch.state = .empty then .next s' else .next (removePen s')

/-! ### The SSU result -/

/-- The reasons of a paused charger updated; with none left the charger enters its target (R131). -/
def resume (target : PauseTarget) (s : State) : State :=
  if s.pch.hasReason then s.setPch { s.pch with state := .paused target s.pch.deny s.pch.budgetPause }
  else
    match target with
    | .probe => enterProbe s
    | .charging k => s.setPch { s.pch with state := .charging k, staged := 0 }

/-- SSU_RESULT_DELIVERY (R120, R131). -/
def execSsuResultDelivery (allowance : Allowance) (dutyCeiling : Nat) (budgetPause : Bool) (s : State) :
    Host.Outcome State Fault Refusal :=
  let t := s.took (.ssuResultDelivery allowance dutyCeiling budgetPause)
  let s' := t.setPch { t.pch with allowance := allowance, dutyCeiling := dutyCeiling, budgetPause := budgetPause }
  match s'.pch.state with
  | .paused target _ _ => .next (resume target s')
  | _ => .next s'

/-! ### The interval end (R121) -/

/-- The profile row of stage `k`; an index beyond the bank reads as an unused row. -/
def Pch.rowAt (p : Pch) (k : Nat) : ProfileRow :=
  p.active.getD k { inUse := false, kind := .topup, target := 10, limit := 1, action := .next, exitBelow := none }

/-- An interval end in PROBE after the tests (R124). -/
def probeEnd (s : State) : State :=
  if !s.pch.probePassed then s.setPch { s.pch with probePassed := true }
  else
    let s' := s.setPch { s.pch with probeCount := s.pch.probeCount + 1 }
    if s'.pch.probeCount < 3 then s'.setPch { s'.pch with staged := s'.probeDuty }
    else if s'.pch.probeMin ≤ s'.pch.lastCurrent then
      s'.setPch { s'.pch with state := .charging 0, elapsed := 0, exitStreak := 0 }
    else enterDone s'

/-- The new duty of a regulation, clamped to 0..bound (R125). -/
def newDuty (s : State) (target : Nat) : Nat :=
  let p := s.pch
  let duty : Int :=
    if (p.lastCurrent : Int) < (target : Int) - p.regBand then (p.staged : Int) + p.regStep
    else if target + p.regBand < p.lastCurrent then (p.staged : Int) - p.regStep
    else p.staged
  clampNat s.bound duty

/-- The exit streak after an interval end of a stage (R126). -/
def exitStreakAfter (s : State) (row : ProfileRow) : Nat :=
  match row.exitBelow with
  | none => 0
  | some e =>
    if s.pch.lastCurrent < e ∧ s.pch.applied = s.ssu.dutyMax ∧ s.ssu.dutyMax ≤ s.pch.dutyCeiling then
      s.pch.exitStreak + 1
    else 0

/-- A complete stage moves to the following row, or to DONE (R127). -/
def completeStage (k : Nat) (s : State) : State :=
  if k < 5 ∧ (s.pch.rowAt (k + 1)).inUse then
    s.setPch { s.pch with state := .charging (k + 1), elapsed := 0, exitStreak := 0 }
  else enterDone s

/-- Regulation at an interval end in CHARGING(k), then the exit-below and time limit tests (R125 to R127). DESIGN CHOICE
(log 35): the interval's length is added in full, though the sum may pass the 65 535 000 ms that 8.1 lists, and FAULT keeps
and reports that sum (R132). -/
def regulate (k : Nat) (s : State) : State :=
  let row := s.pch.rowAt k
  let s' := s.setPch { s.pch with
    staged := newDuty s row.target
    elapsed := s.pch.elapsed + s.pch.interval
    exitStreak := exitStreakAfter s row }
  if 5 ≤ s'.pch.exitStreak then completeStage k s'
  else if row.limit * 1000 ≤ s'.pch.elapsed then
    match row.action with
    | .next => completeStage k s'
    | .fault => enterFault .stageTimeout s'
  else s'

/-- The overcurrent test, the pause test, and then the state's own handling (R129, R130). -/
def chargingEnd (target : PauseTarget) (s : State) : State :=
  let streak := if s.pch.ocLimit < s.pch.lastCurrent then s.pch.ocStreak + 1 else 0
  let s' := s.setPch { s.pch with ocStreak := streak }
  if 3 ≤ streak then enterFault .overcurrent s'
  else if s'.pch.hasReason then enterPaused target s'
  else
    match target with
    | .probe => probeEnd s'
    | .charging k => regulate k s'

/-- Step 2 of R121: the handling of the charger's state. -/
def handleState (s : State) : State :=
  match s.pch.state with
  | .probe => chargingEnd .probe s
  | .charging k => chargingEnd (.charging k) s
  | _ => s

/-- The row kind a telemetry record carries: that of the stage's row, or none (R135). -/
def Pch.rowKind (p : Pch) : Option StageKind := p.state.stage.map fun k => (p.rowAt k).kind

/-- INTERVAL_END (R121): the four steps in order. -/
def execIntervalEnd (current : Nat) (s : State) : Host.Outcome State Fault Refusal :=
  let duty := s.pch.applied
  let h := handleState (s.setPch { s.pch with lastCurrent := current })
  let t := h.setPch { h.pch with applied := h.pch.staged, interval := h.pch.regInterval }
  .next (t.offer (.chargeTelemetry t.pch.state t.pch.rowKind duty current t.pch.dutyCeiling t.stamp))

/-- RECHARGE_TIMER_EXPIRY (R128): acts in DONE. A timer that is not due has no expiry (R138, log 5). -/
def execRechargeTimerExpiry (s : State) : Host.Outcome State Fault Refusal :=
  if s.pch.rechargeTimer.due s.partTime ∧ s.pch.state = .done then
    .next (probeOrPause (s.setPch { s.pch with rechargeTimer := .cancelled }))
  else .next s

/-! ### Requests -/

/-- The charger cleared of its fault (R132). -/
def clearFault (s : State) : State :=
  match s.pch.state with
  | .fault _ _ => probeOrPause (s.setPch { s.pch with ocStreak := 0 })
  | _ => s

/-- CLEAR_CHARGER (R132). -/
def execClearCharger (tag : Byte) (s : State) : Host.Outcome State Fault Refusal :=
  let c : Instr := .clearCharger tag
  .next (answerOk c tag 0x0B (clearFault (s.took c)))

/-- A commit of the profile acting on the charger's state (R134). -/
def commitProfileState (s : State) : State :=
  match s.pch.state with
  | .charging _ =>
    let s' := probeOrPause (s.setPch { s.pch with elapsed := 0, exitStreak := 0 })
    if s.pch.hasReason then s'.setPch { s'.pch with applied := 0 } else s'
  | .paused _ deny budget =>
    s.setPch { s.pch with state := .paused .probe deny budget, elapsed := 0, exitStreak := 0 }
  | _ => s

/-- COMMIT_PROFILE (R134). -/
def execCommitProfile (tag : Byte) (s : State) : Host.Outcome State Fault Refusal :=
  let c : Instr := .commitProfile tag
  let s' := s.took c
  .next (answerOk c tag 0x07 (commitProfileState (s'.setPch { s'.pch with active := s'.pch.pending })))

/-- WRITE_ROWS_PROFILE (R133): the rows go to the pending bank. -/
def execWriteRowsProfile (tag start count : Byte) (rows : List Byte) (s : State) :
    Host.Outcome State Fault Refusal :=
  let c : Instr := .writeRowsProfile tag start count rows
  .next (answerRows c tag (checkRows readProfileRow 10 6 start count rows)
    (fun rs s => s.setPch { s.pch with pending := replaceRows s.pch.pending start.toNat rs }) (s.took c))

end Sys2Proof.Machine
end

