-- ==== Sys2Proof/Machine/LidPort.lean ====
section
/-! DEFINITION. The lid sensor port (chapter 1, R6 to R17). -/

namespace Sys2Proof.Machine

/-- The value of one source: the axis, negated with saturation if its sign is − (R14 step 1). -/
def Source.value (src : Source) (v : Vec3) : Int :=
  let a := match src.axis with | .x => v.x | .y => v.y | .z => v.z
  if src.negate then sat16 (-a) else a

/-- A sample mapped through a mount record, each step saturating (R14). -/
def Mount.map (m : Mount) (v : Vec3) : Vec3 :=
  { x := sat16 (m.srcX.value v - m.offset.x)
    y := sat16 (m.srcY.value v - m.offset.y)
    z := sat16 (m.srcZ.value v - m.offset.z) }

/-- The classification of a completed read (R7): identity first, new data second. -/
def readOutcome (m : Mount) (identity : Byte) (newData : Bool) : ReadOutcome :=
  if identity ≠ m.identity then .idMismatch else if newData then .good else .noNewData

/-- A GOOD completion (R8). -/
def readGood (raw : Vec3) (s : State) : State :=
  let p : Sample := { sensor := .lid, v := s.lsp.mount.map raw, time := s.partTime }
  (s.setLsp { s.lsp with reading := false, outcome := .good, streak := 0, last := some p }).emits
    [.computation p, .recordOffer (.lidSample p.v s.stamp)]

/-- A NO_NEW_DATA or ID_MISMATCH completion, which stalls the port at a streak of 3 (R9). -/
def readFailed (outcome : ReadOutcome) (s : State) : State :=
  let l := { s.lsp with reading := false, outcome := outcome, streak := s.lsp.streak + 1 }
  if s.lsp.streak + 1 < 3 then s.setLsp l
  else
    (s.setLsp { l with streak := 3, port := .stalled, timer := .cancelled }).emits
      [.recordOffer (.fault .lidPortStalled s.stamp), .portStateDelivery .stalled]

/-- SAMPLE_TIMER_EXPIRY (R6): the timer restarts and a read starts, unless one is in progress. The expiry of a timer that
a restart or PORT_OFF has overtaken does not occur (R12, log 5). -/
def execSampleTimerExpiry (s : State) : Host.Outcome State Fault Refusal :=
  if s.lsp.timer.due s.partTime then
    .next (s.setLsp { s.lsp with timer := s.timer s.lsp.samplePeriod, reading := true })
  else .next s

/-- READ_COMPLETION (R7 to R9). With no read in progress nothing completes (log 5). -/
def execReadCompletion (identity : Byte) (newData : Bool) (x y z : BitVec 16) (s : State) :
    Host.Outcome State Fault Refusal :=
  if s.lsp.reading then
    match readOutcome s.lsp.mount identity newData with
    | .good => .next (readGood ⟨x.toInt, y.toInt, z.toInt⟩ s)
    | failed => .next (readFailed failed s)
  else .next s

/-- The port is turned off (R10); a port already OFF is left as it is. -/
def turnOff (s : State) : State :=
  if s.lsp.port = .off then s
  else
    (s.setLsp { s.lsp with port := .off, timer := .cancelled, reading := false }).emit (.portStateDelivery .off)

/-- PORT_OFF (R10, R176 step 2): LID is 0, and any other port is refused. -/
def execPortOff (tag port : Byte) (s : State) : Host.Outcome State Fault Refusal :=
  let c : Instr := .portOff tag port
  if port = 0 then .next (answerOk c tag 0x0D (turnOff (s.took c)))
  else .next (answerStatus c tag 0x0D .badRequest (s.took c))

/-- The five steps of a restart (R11). -/
def restartLid (s : State) : State :=
  (s.setLsp { s.lsp with port := .running, streak := 0, reading := false, timer := s.timer s.lsp.samplePeriod }).emits
    [.lidFilterClear, .portStateDelivery .running]

/-- RESTART_PORT_LID (R11). -/
def execRestartPortLid (tag : Byte) (s : State) : Host.Outcome State Fault Refusal :=
  let c : Instr := .restartPortLid tag
  .next (answerOk c tag 0x0C (restartLid (s.took c)))

/-- The lid mount record replaced (R13, R15). -/
def writeMountLid (rs : List Mount) (s : State) : State :=
  match rs with
  | m :: _ => s.setLsp { s.lsp with mount := m }
  | [] => s

/-- WRITE_ROWS_MOUNT_LID (R13). -/
def execWriteRowsMountLid (tag start count : Byte) (rows : List Byte) (s : State) :
    Host.Outcome State Fault Refusal :=
  let c : Instr := .writeRowsMountLid tag start count rows
  .next (answerRows c tag (checkRows readMount 10 1 start count rows) writeMountLid (s.took c))

end Sys2Proof.Machine
end

