-- ==== Sys2Proof/Machine/DockLink.lean ====
section
/-! DEFINITION. The dock link controller (chapter 2, R18 to R42). -/

namespace Sys2Proof.Machine

/-! ### Shared steps -/

/-- Whether the dock state is ATTACHING, ATTACHED or MUTE. -/
def DockState.live : DockState → Bool
  | .attaching => true | .attached => true | .mute => true
  | .absent => false | .unpowered => false

/-- The dock state changes, and every change goes to the classifier and the hinge engine (R27). -/
def setDockState (st : DockState) (s : State) : State :=
  if s.dlc.state = st then s
  else (s.setDlc { s.dlc with state := st }).emits [.haeDockStateDelivery st, .pclDockStateDelivery st]

/-- The budgeted draw of the present state (R35). -/
def Dlc.budget (d : Dlc) : Nat :=
  match d.state with
  | .absent => 0
  | .unpowered => 0
  | .attaching => d.defaultDraw
  | .attached => if d.statusSeen then d.statusDraw else d.defaultDraw
  | .mute => if d.statusSeen then d.statusDraw else d.defaultDraw

/-- The draw is recomputed, and a changed value goes to the SSU (R35). -/
def recomputeDraw (s : State) : State :=
  if s.dlc.budget = s.dlc.draw then s
  else (s.setDlc { s.dlc with draw := s.dlc.budget }).emit (.drawDelivery s.dlc.budget)

/-- A DOCK_EVENT is offered with the undelivered count, which is then 0 (R27, R33). -/
def dockEvent (kind : DockEventKind) (s : State) : State :=
  (s.offer (.dockEvent kind s.dlc.state s.dlc.undelivered s.stamp)).setDlc { s.dlc with undelivered := 0 }

/-- ITEMS_DROPPED at the end of a handling whose discard no other DOCK_EVENT reports (R33). -/
def reportDropped (dropped : Bool) (s : State) : State := if dropped then dockEvent .itemsDropped s else s

/-- The head item leaves the queue, and the DLC gives notice of room (R31). -/
def popItem (s : State) : State := (s.setDlc { s.dlc with queue := s.dlc.queue.tail }).emit .dockRoomNotice

/-- Whether one more unconsumed offer brings the head item to the limit of 8 (R32). -/
def atOfferLimit (s : State) : Bool :=
  match s.dlc.queue with
  | i :: _ => 8 ≤ i.offers + 1
  | [] => false

/-- The head item's offer is counted as unconsumed; at the limit the item is discarded into the undelivered
count (R32). -/
def countUnconsumed (s : State) : State :=
  match s.dlc.queue with
  | [] => s
  | i :: rest =>
    if 8 ≤ i.offers + 1 then
      (popItem s).setDlc { (popItem s).dlc with undelivered := satAdd 255 s.dlc.undelivered 1 }
    else s.setDlc { s.dlc with queue := { i with offers := i.offers + 1 } :: rest }

/-- The exchange ends; an abandoned answer that has begun stays on the wire as activity to ignore (R19, R28). -/
def abandonExchange (s : State) : State :=
  s.setDlc { s.dlc with
    exchange := none
    stray := s.dlc.stray || (match s.dlc.exchange with | some e => e.answering | none => false) }

/-- Entry into ATTACHING (R25). -/
def enterAttaching (s : State) : State :=
  recomputeDraw (setDockState .attaching (s.setDlc { s.dlc with
    statusSeen := false
    announced := false
    idMatch := .unknown
    identity := none
    missStreak := 0
    attachTimer := s.timer s.dlc.attachTimeout
    pollTimer := s.timer s.dlc.pollPeriod }))

/-- Entry into MUTE with its DOCK_EVENT (R25, R26). -/
def enterMute (s : State) : State := dockEvent .mute (recomputeDraw (setDockState .mute s))

/-- The teardown to ABSENT or UNPOWERED (R28). -/
def teardown (target : DockState) (kind : DockEventKind) (s : State) : State :=
  let s1 := abandonExchange s
  let s2 := s1.setDlc { s1.dlc with
    pollTimer := .cancelled
    attachTimer := .cancelled
    undelivered := satAdd 255 s1.dlc.undelivered s1.dlc.queue.length
    queue := [] }
  let s3 := setDockState target (s2.emits [.dockRoomNotice, .baseInvalidation])
  let s4 := recomputeDraw (s3.setDlc { s3.dlc with heldModifier := 0, heldCodes := [], heldButtons := 0 })
  let s5 := s4.setDlc { s4.dlc with idMatch := .unknown, identity := none }
  dockEvent kind s5

/-- The teardown to ABSENT, with the detach delivered to the SWA and the trigger to the ALU (R27, R28). -/
def detach (s : State) : State :=
  (teardown .absent .detached s).emits [.dockDetach, .triggerDelivery .dockAbsent]

/-- The first entry to ATTACHED since ATTACHING: announced, with its event and deliveries (R25 to R27). -/
def announce (s : State) : State :=
  (dockEvent .attached (s.setDlc { s.dlc with announced := true })).emits
    [.dockAttach, .triggerDelivery .dockAttached]

/-! ### Exchanges -/

/-- POLL_TIMER_EXPIRY (R18): the timer restarts with the period of the state, and with no exchange in progress a
POLL is sent. A timer that is not due has no expiry (log 5). -/
def execPollTimerExpiry (s : State) : Host.Outcome State Fault Refusal :=
  if s.dlc.pollTimer.due s.partTime then
    let period := if s.dlc.state = .mute then 8 * s.dlc.pollPeriod else s.dlc.pollPeriod
    let d := { s.dlc with pollTimer := s.timer period }
    match s.dlc.exchange with
    | some _ => .next (s.setDlc d)
    | none => .next (s.setDlc { d with
        wire := pollWire d.nextPoll (d.queue.head?.map DockItem.bytes)
        nextPoll := d.nextPoll + 1
        exchange := some { poll := d.nextPoll, riding := !d.queue.isEmpty, answering := false
                           timeout := d.answerTimeout } })
  else .next s

/-- ANSWER_BEGIN (R19): the answer of the exchange begins, or wire activity with no exchange in progress begins, which
is ignored. -/
def execAnswerBegin (s : State) : Host.Outcome State Fault Refusal :=
  match s.dlc.exchange with
  | some e => .next (s.setDlc { s.dlc with exchange := some { e with answering := true }, stray := false })
  | none => .next (s.setDlc { s.dlc with stray := true })

/-- The end of an exchange as MISS, CORRUPT or MALFORMED (R21). -/
def exchangeFailed (kind : FailKind) (e : Exchange) (s : State) : State :=
  let dropped := e.riding && atOfferLimit s
  let s1 := if e.riding then countUnconsumed s else s
  let s2 := s1.setDlc { s1.dlc with
    exchange := none
    missStreak := satAdd 255 s1.dlc.missStreak 1
    lastError := some { kind := kind, poll := e.poll, time := s.partTime } }
  if s2.dlc.state = .attached ∧ s2.dlc.missLimit ≤ s2.dlc.missStreak then enterMute s2
  else reportDropped dropped s2

/-- ANSWER_TIMEOUT (R19): an exchange whose answer has not begun ends as MISS. -/
def execAnswerTimeout (s : State) : Host.Outcome State Fault Refusal :=
  match s.dlc.exchange with
  | some e => if e.answering then .next s else .next (exchangeFailed .miss e s)
  | none => .next s

/-- ANSWER_CUTOFF (R19): the answer of the exchange is cut off and CORRUPT; the end of ignored activity is ignored. -/
def execAnswerCutoff (s : State) : Host.Outcome State Fault Refusal :=
  if s.dlc.stray then .next (s.setDlc { s.dlc with stray := false })
  else
    match s.dlc.exchange with
    | some e => .next (exchangeFailed .corrupt e s)
    | none => .next s

/-- A KEY record handled in ATTACHED (R36). -/
def handleKey (modifier : Byte) (codes : List Byte) (s : State) : State :=
  match s.dlc.keyGate with
  | .block => s
  | .pass =>
    let s' := (s.offer (.key false modifier codes s.stamp)).setDlc
      { s.dlc with heldModifier := modifier, heldCodes := codes }
    if modifier ≠ 0 ∨ codes ≠ [] then s'.emit .keyOccurrence else s'

/-- A POINTER record handled in ATTACHED (R36). -/
def handlePointer (dx dy : Byte) (buttons : BitVec 3) (wheel : Byte) (s : State) : State :=
  match s.dlc.pointerGate with
  | .block => s
  | .pass =>
    let s' := (s.offer (.pointer false dx dy buttons wheel s.stamp)).setDlc { s.dlc with heldButtons := buttons }
    if dx ≠ 0 ∨ dy ≠ 0 ∨ wheel ≠ 0 ∨ buttons ≠ 0 then s'.emit .pointerOccurrence else s'

/-- A BASE_MOTION record handled in ATTACHED (R38). -/
def handleBaseMotion (raw : Vec3) (newData : Bool) (s : State) : State :=
  if newData ∧ s.dlc.idMatch = .matched then
    let p : Sample := { sensor := .base, v := s.dlc.mount.map raw, time := s.partTime }
    (s.setDlc { s.dlc with lastBase := some p }).emits [.computation p, .recordOffer (.baseSample p.v s.stamp)]
  else s

/-- The identity match of a dock identity against a mount record (R38). -/
def matchOf (identity : Option Byte) (m : Mount) : IdMatch :=
  match identity with
  | none => .unknown
  | some b => if b = m.identity then .matched else .mismatched

/-- A STATUS record handled in ATTACHED (R40). -/
def handleStatus (draw : Nat) (identity faultBits : Byte) (s : State) : State :=
  (recomputeDraw (s.setDlc { s.dlc with
    statusSeen := true
    identity := some identity
    faultBits := faultBits
    idMatch := matchOf (some identity) s.dlc.mount
    statusDraw := draw })).offer (.dockStatus draw identity faultBits s.stamp)

/-- One record of a GOOD answer handled in ATTACHED (R22 step 4). -/
def handleRecord (s : State) : DockRecord → State
  | .key modifier codes => handleKey modifier codes s
  | .pointer dx dy buttons wheel => handlePointer dx dy buttons wheel s
  | .baseMotion x y z newData => handleBaseMotion ⟨x, y, z⟩ newData s
  | .status draw identity faultBits => handleStatus draw identity faultBits s

/-- Whether a record is a STATUS record. -/
def DockRecord.isStatus : DockRecord → Bool
  | .status .. => true
  | _ => false

/-- Step 3 of R22: the dock may attach or recover. The second component says that a DOCK_EVENT was offered. -/
def attachStep (records : List DockRecord) (s : State) : State × Bool :=
  match s.dlc.state with
  | .attaching =>
    if records.any DockRecord.isStatus then
      (announce (recomputeDraw (setDockState .attached (s.setDlc { s.dlc with attachTimer := .cancelled }))), true)
    else (s, false)
  | .mute =>
    let s' := recomputeDraw (setDockState .attached s)
    (if s.dlc.announced then dockEvent .recovered s' else announce s', true)
  | _ => (s, false)

/-- Step 1 of R22: the riding item is delivered, or its offer is counted as unconsumed. -/
def settleItem (riding consumed : Bool) (s : State) : State :=
  if riding then (if consumed then (if s.dlc.queue = [] then s else popItem s) else countUnconsumed s) else s

/-- The end of an exchange as GOOD (R22). -/
def exchangeGood (e : Exchange) (consumed : Bool) (records : List DockRecord) (s : State) : State :=
  let dropped := e.riding && !consumed && atOfferLimit s
  let s1 := settleItem e.riding consumed s
  let s2 := s1.setDlc { s1.dlc with exchange := none, missStreak := 0 }
  let a := attachStep records s2
  let s4 := if a.1.dlc.state = .attached then records.foldl handleRecord a.1 else a.1
  reportDropped (dropped && !a.2) s4

/-- ANSWER_END (R19, R21, R22): the answer is classified and handled. The end of ignored activity, and an end with no
exchange in progress, are ignored. An answer whose begin was not commanded is taken as begun (log 6). -/
def execAnswerEnd (bytes : List Byte) (s : State) : Host.Outcome State Fault Refusal :=
  if s.dlc.stray then .next (s.setDlc { s.dlc with stray := false })
  else
    match s.dlc.exchange with
    | none => .next s
    | some e =>
      match classifyAnswer e.poll bytes with
      | .failed kind => .next (exchangeFailed kind e s)
      | .good consumed records => .next (exchangeGood e consumed records s)

/-! ### Contact, power and timers -/

/-- A DOCK_CONTACT assertion (R24): acts in ABSENT. In another state the LIF issues none, and nothing is done (log 5). -/
def contactAsserted (s : State) : State :=
  match s.dlc.state with
  | .absent => if s.dlc.al0 then enterAttaching s else (setDockState .unpowered s).emit .dockRoomNotice
  | _ => s

/-- A DOCK_CONTACT clear (R24): the teardown from every state but ABSENT. -/
def contactClear (s : State) : State :=
  match s.dlc.state with
  | .absent => s
  | _ => detach s

/-- DOCK_CONTACT_EVENT (R24). -/
def execDockContactEvent (asserted : Bool) (s : State) (time : PartTime := 0) :
    Host.Outcome State Fault Refusal :=
  let s' := s.took (.dockContactEvent asserted time)
  .next (if asserted then contactAsserted s' else contactClear s')

/-- An AL0 level that differs from the one recorded (R24). -/
def al0Changed (on : Bool) (s : State) : State :=
  let s' := s.setDlc { s.dlc with al0 := on }
  match on, s.dlc.state with
  | true, .unpowered => enterAttaching s'
  | true, _ => s'
  | false, .attaching => teardown .unpowered .unpowered s'
  | false, .attached => teardown .unpowered .unpowered s'
  | false, .mute => teardown .unpowered .unpowered s'
  | false, _ => s'

/-- AL0_LEVEL_DELIVERY (R24). -/
def execAl0LevelDelivery (on : Bool) (s : State) : Host.Outcome State Fault Refusal :=
  let s' := s.took (.al0LevelDelivery on)
  .next (if on = s'.dlc.al0 then s' else al0Changed on s')

/-- ATTACH_TIMER_EXPIRY (R25): ATTACHING moves to MUTE. A timer that is not due has no expiry (log 5). -/
def execAttachTimerExpiry (s : State) : Host.Outcome State Fault Refusal :=
  if s.dlc.attachTimer.due s.partTime ∧ s.dlc.state = .attaching then
    .next (enterMute (s.setDlc { s.dlc with attachTimer := .cancelled }))
  else .next s

/-! ### Gates -/

/-- A change of the key gate (R37), with a synthetic release if a key is held. -/
def setKeyGate (value : Gate) (s : State) : State :=
  let s' := s.setDlc { s.dlc with keyGate := value }
  if s.dlc.keyGate = .pass ∧ value = .block ∧ (s.dlc.heldModifier ≠ 0 ∨ s.dlc.heldCodes ≠ []) then
    (s'.setDlc { s'.dlc with heldModifier := 0, heldCodes := [] }).offer (.key true 0 [] s.stamp)
  else s'

/-- A change of the pointer gate (R37), with a synthetic release if a button is held. -/
def setPointerGate (value : Gate) (s : State) : State :=
  let s' := s.setDlc { s.dlc with pointerGate := value }
  if s.dlc.pointerGate = .pass ∧ value = .block ∧ s.dlc.heldButtons ≠ 0 then
    (s'.setDlc { s'.dlc with heldButtons := 0 }).offer (.pointer true 0 0 0 0 s.stamp)
  else s'

/-- GATE_DELIVERY (R37). -/
def execGateDelivery (which : GateId) (value : Gate) (s : State) : Host.Outcome State Fault Refusal :=
  let s' := s.took (.gateDelivery which value)
  match which with
  | .key => .next (setKeyGate value s')
  | .pointer => .next (setPointerGate value s')

/-! ### Items -/

/-- Whether the DLC takes an item handed to it: it refuses one only in a live state with four items queued (R31). -/
def takesItem (s : State) : Bool := !(s.dlc.state.live && 4 ≤ s.dlc.queue.length)

/-- The DLC takes an item: it joins the tail, or is discarded at once with ITEMS_DROPPED (R31, R33). -/
def takeItem (item : List Byte) (s : State) : State :=
  if s.dlc.state.live then s.setDlc { s.dlc with queue := s.dlc.queue ++ [{ bytes := item, offers := 0 }] }
  else dockEvent .itemsDropped (s.setDlc { s.dlc with undelivered := satAdd 255 s.dlc.undelivered 1 })

/-- Whether the head frame of the downstream queue is this item, not yet taken. -/
def headIsItem (item : List Byte) (s : State) : Bool :=
  match s.hlm.head, s.hlm.queue with
  | .idle, f :: _ => f.kind == .dockItem && f.payload == item
  | .waitingForDockRoom, f :: _ => f.kind == .dockItem && f.payload == item
  | _, _ => false

/-- An item is handed to the DLC: taken, its frame leaves the downstream queue; refused, the HLM waits for room
(R31, R175). -/
def handItem (item : List Byte) (s : State) : State :=
  if takesItem s then
    let s' := takeItem item s
    if headIsItem item s then departHead s' else s'
  else if headIsItem item s then s.setHlm { s.hlm with head := .waitingForDockRoom } else s

/-- DOCK_ITEM_HANDOVER (R31). -/
def execDockItemHandover (item : List Byte) (s : State) : Host.Outcome State Fault Refusal :=
  .next (handItem item (s.took (.dockItemHandover item)))

/-- DOCK_ROOM_NOTICE (R175): an item that waits for room is handed again. -/
def execDockRoomNotice (s : State) : Host.Outcome State Fault Refusal :=
  let s' := s.took .dockRoomNotice
  match s'.hlm.head, s'.hlm.queue with
  | .waitingForDockRoom, f :: _ => .next (handItem f.payload s')
  | _, _ => .next s'

/-! ### Requests -/

/-- A restart of the dock port in ATTACHING, ATTACHED or MUTE (R29). -/
def restartDock (s : State) : State :=
  let riding := match s.dlc.exchange with | some e => e.riding | none => false
  let dropped := riding && atOfferLimit s
  let s1 := abandonExchange s
  reportDropped dropped (enterAttaching (if riding then countUnconsumed s1 else s1))

/-- RESTART_PORT_DOCK (R29). -/
def execRestartPortDock (tag : Byte) (s : State) : Host.Outcome State Fault Refusal :=
  let c : Instr := .restartPortDock tag
  let s' := s.took c
  if s'.dlc.state.live then .next (answerOk c tag 0x0C (restartDock s'))
  else .next (answerStatus c tag 0x0C .badState s')

/-- CLEAR_DOCK_ERROR (R34). -/
def execClearDockError (tag : Byte) (s : State) : Host.Outcome State Fault Refusal :=
  let c : Instr := .clearDockError tag
  let s' := s.took c
  .next (answerOk c tag 0x0B (s'.setDlc { s'.dlc with lastError := none }))

/-- The base mount record replaced, and the identity match recomputed (R39). -/
def writeMountBase (rs : List Mount) (s : State) : State :=
  match rs with
  | m :: _ => s.setDlc { s.dlc with mount := m, idMatch := matchOf s.dlc.identity m }
  | [] => s

/-- WRITE_ROWS_MOUNT_BASE (R39). -/
def execWriteRowsMountBase (tag start count : Byte) (rows : List Byte) (s : State) :
    Host.Outcome State Fault Refusal :=
  let c : Instr := .writeRowsMountBase tag start count rows
  .next (answerRows c tag (checkRows readMount 10 1 start count rows) writeMountBase (s.took c))

end Sys2Proof.Machine
end

