-- ==== Sys2Proof/Machine/Hinge.lean ====
section
/-! DEFINITION. The hinge angle engine (chapter 3, R43 to R66). -/

namespace Sys2Proof.Machine

/-! ### Filter, motion and freshness (3.3) -/

/-- One axis stepped toward the sample: the exact difference divided by 2^k, rounded toward zero (R44). -/
def filterAxis (k : Nat) (f sample : Int) : Int := f + Int.tdiv (sample - f) (2 ^ k)

/-- A filtered vector after a sample: seeded when cleared, stepped otherwise (R44). -/
def filterStep (k : Nat) (f : Option Filtered) (p : Sample) : Filtered :=
  match f with
  | none => { v := p.v, updated := p.time }
  | some f =>
    { v := { x := filterAxis k f.v.x p.v.x, y := filterAxis k f.v.y p.v.y, z := filterAxis k f.v.z p.v.z }
      updated := p.time }

/-- The motion test: on some axis the exact difference exceeds the threshold; a seeding sample is never moving
(R46). -/
def isMoving (threshold : Nat) (f : Option Filtered) (v : Vec3) : Bool :=
  match f with
  | none => false
  | some f =>
    threshold < (v.x - f.v.x).natAbs || threshold < (v.y - f.v.y).natAbs || threshold < (v.z - f.v.z).natAbs

/-- The period in ms that a sensor's freshness follows (R47). -/
def State.sensorPeriod (s : State) : Sensor → Nat
  | .lid => s.lsp.samplePeriod
  | .base => s.dlc.pollPeriod

/-- Whether a vector is fresh: not cleared, and no older than three periods, modulo 2^32 (R47). -/
def isFresh (now : PartTime) (period : Nat) (f : Option Filtered) : Bool :=
  match f with
  | none => false
  | some f => (now - f.updated).toNat ≤ 3 * period

/-- Whether the lid vector is fresh now. -/
def State.lidFresh (s : State) : Bool := isFresh s.partTime (s.sensorPeriod .lid) s.hae.lid

/-- Whether the base vector is fresh now. -/
def State.baseFresh (s : State) : Bool := isFresh s.partTime (s.sensorPeriod .base) s.hae.base

/-- Step 1 of a computation: motion test, filter update, freshness timer, and for the lid the deliveries to the
rotation unit and the arbiter (R44, R46, R47, R62). -/
def takeSample (p : Sample) (s : State) : State :=
  match p.sensor with
  | .lid =>
    let m := isMoving s.hae.motionThreshold s.hae.lid p.v
    let f := filterStep s.hae.filterShift s.hae.lid p
    let s' := s.setHae { s.hae with
      lid := some f, lidMoving := m, lidTimer := s.timer (3 * s.sensorPeriod .lid) }
    s'.emits (.lidVectorDelivery f.v :: if m then [.lidMotionOccurrence s.hae.motionIsActivity] else [])
  | .base =>
    s.setHae { s.hae with
      base := some (filterStep s.hae.filterShift s.hae.base p)
      baseMoving := isMoving s.hae.motionThreshold s.hae.base p.v
      baseTimer := s.timer (3 * s.sensorPeriod .base) }

/-! ### Quality (3.4) -/

/-- The NO_BASE condition (R49 test 1). -/
def State.noBase (s : State) : Bool :=
  s.hae.dock == .absent || s.hae.dock == .unpowered || s.hae.base.isNone

/-- The STALE condition (R49 test 2). -/
def State.isStale (s : State) : Bool := !s.lidFresh || !s.baseFresh || s.hae.port == .stalled

/-- The projection test of one sensor, on squares (R52); a cleared vector fails. -/
def projects (projectionMin : Nat) (f : Option Filtered) : Bool :=
  match f with
  | none => false
  | some f => projectionMin ^ 2 ≤ (f.v.y ^ 2 + f.v.z ^ 2).toNat

/-- The quality decision (R49): the first test that applies. -/
def decideQuality (s : State) : Quality :=
  if s.noBase then .noBase
  else if s.isStale then .stale
  else if !(projects s.hae.projectionMin s.hae.lid && projects s.hae.projectionMin s.hae.base) then .axisVertical
  else if s.hae.front && s.hae.rear then .hallConflict
  else if s.hae.lidMoving || s.hae.baseMoving then .moving
  else .good

/-! ### Hinge work (3.4.4 to 3.4.8) -/

/-- The direction of a filtered vector's (y, z) (R54); 0 stands for a cleared vector, which R54 never meets. -/
def yzDirection (f : Option Filtered) : Nat :=
  match f with
  | none => 0
  | some f => direction f.v.y f.v.z

/-- The raw hinge (R54). -/
def rawHinge (h : Hae) : Nat :=
  (((yzDirection h.lid : Int) - yzDirection h.base + 2880 + h.hingeCal) % 5760).toNat

/-- The front and rear rows of R55: the raw hinge, restricted to the half of the circle the hall belongs to. -/
def hallRow (hall : Hall) (r : Nat) : Nat :=
  match hall with
  | .front => if r ≤ 2880 then r else 0
  | .rear => if 2880 ≤ r then r else 5760

/-- The tracked hinge moved by the circular difference and clamped to 0..5760 (R55, last row). -/
def moveTracked (t r : Nat) : Nat := clampNat 5760 ((t : Int) + circDiff (t % 5760) r)

/-- The tracked hinge from the raw hinge, by the first row of R55 that applies. -/
def track (h : Hae) (r : Nat) : Nat :=
  if h.front then hallRow .front r
  else if h.rear then hallRow .rear r
  else
    match h.tracked with
    | none => r
    | some t => moveTracked t r

/-- Step 3 of a computation (R48): the hinge work that the decided quality calls for (R50, R54 to R56). -/
def hingeWork (h : Hae) : Hae :=
  match h.quality with
  | .noBase => { h with raw := none, tracked := none }
  | .hallConflict => { h with raw := some (rawHinge h) }
  | .good => { h with raw := some (rawHinge h), tracked := some (track h (rawHinge h)) }
  | .moving => { h with raw := some (rawHinge h), tracked := some (track h (rawHinge h)) }
  | .stale => h
  | .axisVertical => h
  | .noData => h

/-! ### Reported hinge, base face and deliveries (3.6, 3.7) -/

/-- The base face (R60). -/
def baseFace (fresh : Bool) (faceT : Nat) (f : Option Filtered) : BaseFace :=
  match f with
  | none => .unknown
  | some f =>
    if !fresh then .unknown
    else if (faceT : Int) ≤ f.v.z then .up
    else if f.v.z ≤ -(faceT : Int) then .down
    else .edge

/-- The base face re-evaluated (R60). -/
def updateFace (s : State) : State :=
  s.setHae { s.hae with face := baseFace s.baseFresh s.hae.faceT s.hae.base }

/-- The reported hinge through the deadband (R59): the first row that holds. -/
def reportHinge (deadband : Nat) (tracked reported : Option Nat) : Option Nat :=
  match tracked, reported with
  | none, _ => none
  | some t, none => some t
  | some t, some r =>
    if deadband ≤ ((t : Int) - r).natAbs then some t
    else if t = 0 ∨ t = 5760 then some t
    else some r

/-- The reported hinge re-evaluated (R59). -/
def updateReported (s : State) : State :=
  s.setHae { s.hae with reported := reportHinge s.hae.hingeDeadband s.hae.tracked s.hae.reported }

/-- The deliveries of an event's outcome against the values before it (R61). -/
def deliverOutcome (before : Hae) (s : State) : State :=
  let h := s.hae
  let toPcl : List Instr :=
    if h.reported ≠ before.reported ∨ h.quality ≠ before.quality ∨ h.face ≠ before.face then
      [.hingeDelivery h.reported h.quality h.face] else []
  let toUfe : List Instr :=
    if h.reported ≠ before.reported ∨ h.quality ≠ before.quality then
      [.recordOffer (.hinge h.reported h.quality h.raw s.stamp)] else []
  s.emits (toPcl ++ toUfe)

/-- The quality decided and the hinge work it calls for (R48 steps 2 and 3). -/
def decideAndWork (s : State) : State := s.setHae (hingeWork { s.hae with quality := decideQuality s })

/-- COMPUTATION (R48): the six steps on a delivered sample. -/
def execComputation (sample : Sample) (s : State) : Host.Outcome State Fault Refusal :=
  let s' := s.took (.computation sample)
  .next (deliverOutcome s'.hae (updateReported (updateFace (decideAndWork (takeSample sample s')))))

/-! ### Reviews (R45, R51) -/

/-- The decision of a review: the first two tests of R49 alone (R51). -/
def reviewQuality (s : State) : State :=
  if s.noBase then s.setHae { s.hae with quality := .noBase, raw := none, tracked := none }
  else if s.isStale then s.setHae { s.hae with quality := .stale }
  else s

/-- A review (R51), with the deliveries against the values before the event. -/
def review (before : Hae) (s : State) : State :=
  deliverOutcome before (updateReported (updateFace (reviewQuality s)))

/-- LID_FILTER_CLEAR (R45): the lid vector is cleared, "no vector" goes to the rotation unit, and a review is made. -/
def execLidFilterClear (s : State) : Host.Outcome State Fault Refusal :=
  let s' := s.took .lidFilterClear
  .next (review s'.hae ((s'.setHae { s'.hae with lid := none, lidMoving := false, lidTimer := .cancelled }).emit
    .noVector))

/-- BASE_INVALIDATION (R45). -/
def execBaseInvalidation (s : State) : Host.Outcome State Fault Refusal :=
  let s' := s.took .baseInvalidation
  .next (review s'.hae (s'.setHae { s'.hae with base := none, baseMoving := false, baseTimer := .cancelled }))

/-- PORT_STATE_DELIVERY (R43, R51). -/
def execPortStateDelivery (state : PortState) (s : State) : Host.Outcome State Fault Refusal :=
  let s' := s.took (.portStateDelivery state)
  .next (review s'.hae (s'.setHae { s'.hae with port := state }))

/-- HAE_DOCK_STATE_DELIVERY (R43, R51). -/
def execHaeDockStateDelivery (state : DockState) (s : State) : Host.Outcome State Fault Refusal :=
  let s' := s.took (.haeDockStateDelivery state)
  .next (review s'.hae (s'.setHae { s'.hae with dock := state }))

/-- A freshness timer started again for the time until the vector is no longer fresh: the first millisecond past
three periods (R47, log 14). -/
def freshUntil (f : Option Filtered) (period : Nat) : Timer :=
  match f with
  | none => .cancelled
  | some f => .running (f.updated + BitVec.ofNat 32 (3 * period + 1))

/-- FRESHNESS_TIMER_EXPIRY (R47): a vector still fresh restarts the timer, otherwise a review is made. A timer that is
not due has no expiry (log 5). -/
def execFreshnessTimerExpiry (sensor : Sensor) (s : State) : Host.Outcome State Fault Refusal :=
  match sensor with
  | .lid =>
    if !s.hae.lidTimer.due s.partTime then .next s
    else if s.lidFresh then .next (s.setHae { s.hae with lidTimer := freshUntil s.hae.lid (s.sensorPeriod .lid) })
    else .next (review s.hae (s.setHae { s.hae with lidTimer := .cancelled }))
  | .base =>
    if !s.hae.baseTimer.due s.partTime then .next s
    else if s.baseFresh then
      .next (s.setHae { s.hae with baseTimer := freshUntil s.hae.base (s.sensorPeriod .base) })
    else .next (review s.hae (s.setHae { s.hae with baseTimer := .cancelled }))

/-! ### Halls (3.5) -/

/-- Anchoring without a raw value (R58). -/
def anchor (hall : Hall) (tracked : Option Nat) : Option Nat :=
  match hall, tracked with
  | .front, none => some 0
  | .front, some t => if 2880 < t then some 0 else some t
  | .rear, none => some 5760
  | .rear, some t => if t < 2880 then some 5760 else some t

/-- The engine with a hall level recorded (R43). -/
def Hae.recordHall (h : Hae) (hall : Hall) (asserted : Bool) : Hae :=
  match hall with
  | .front => { h with front := asserted }
  | .rear => { h with rear := asserted }

/-- The first case of R57 that applies, on the engine with the new level recorded. -/
def hallCase (noBase : Bool) (hall : Hall) (asserted : Bool) (h : Hae) : Hae :=
  if noBase then h
  else if h.front && h.rear then
    if h.quality = .good ∨ h.quality = .moving then { h with quality := .hallConflict } else h
  else if !asserted then h
  else
    match h.quality with
    | .stale => { h with tracked := anchor hall h.tracked }
    | .axisVertical => { h with tracked := anchor hall h.tracked }
    | .good => { h with tracked := (h.raw.map (hallRow hall)).or h.tracked }
    | .moving => { h with tracked := (h.raw.map (hallRow hall)).or h.tracked }
    | .hallConflict => { h with tracked := (h.raw.map (hallRow hall)).or h.tracked }
    | .noData => h
    | .noBase => h

/-- HAE_HALL_EVENT (R57): the level is recorded, the case acts, and the reported hinge and the deliveries follow. -/
def execHaeHallEvent (hall : Hall) (asserted : Bool) (s : State) (time : PartTime := 0) :
    Host.Outcome State Fault Refusal :=
  let s' := s.took (.haeHallEvent hall asserted time)
  let recorded := s'.setHae (s'.hae.recordHall hall asserted)
  .next (deliverOutcome s'.hae (updateReported
    (recorded.setHae (hallCase recorded.noBase hall asserted recorded.hae))))

end Sys2Proof.Machine
end

