-- ==== Sys2Proof/Machine/HostLink.lean ====
section
/-! DEFINITION. The receiver of the host link (chapter 11, R170 to R173). -/

namespace Sys2Proof.Machine

/-! ### Judging a frame (R171, R172) -/

/-- The faults a frame is discarded for at one of its bytes. -/
inductive RxFault where
  | kind | length | check
  deriving DecidableEq, Repr

/-- What the bytes after a SYNC make: a frame still partial, a fault, or a complete frame with its KIND byte. -/
inductive RxVerdict where
  | unfinished
  | faulty (f : RxFault)
  | complete (kindByte : Byte) (frame : DownFrame)
  deriving DecidableEq, Repr

/-- The downstream kind of a KIND byte: REQUEST 0x40, DOCK_ITEM 0x41 (11.7.1). -/
def downKind (b : Byte) : Option DownKind := if b = 0x40 then some .request else if b = 0x41 then some .dockItem else none

/-- The longest payload of a kind (R172). -/
def DownKind.maxLength : DownKind → Nat
  | .request => 60
  | .dockItem => 16

/-- The bytes from TAG on, judged once CHECK is there. -/
def judgeBody (kind : DownKind) (kindByte len : Byte) (rest : List Byte) : RxVerdict :=
  match rest, rest[len.toNat + 1]? with
  | tag :: more, some check =>
    if crc8 (kindByte :: len :: tag :: more.take len.toNat) = check then
      .complete kindByte { kind := kind, tag := tag, payload := more.take len.toNat }
    else .faulty .check
  | _, _ => .unfinished

/-- The bytes after a SYNC, judged in turn (R172). -/
def judge : List Byte → RxVerdict
  | [] => .unfinished
  | kindByte :: rest =>
    match downKind kindByte with
    | none => .faulty .kind
    | some kind =>
      match rest with
      | [] => .unfinished
      | len :: rest' => if kind.maxLength < len.toNat then .faulty .length else judgeBody kind kindByte len rest'

/-! ### Hunting (R172) -/

/-- What the receiver finds in turn: discards and complete frames. -/
inductive RxEvent where
  | discard (f : RxFault)
  | frame (kindByte : Byte) (f : DownFrame)
  deriving DecidableEq, Repr

/-- The receiver run over bytes from HUNTING, after skipping `skip` bytes that a complete frame has taken: the events, and
the bytes of a frame still partial, its SYNC first. After a discard it hunts again from the byte behind the discarded
SYNC. -/
def hunt : Nat → List RxByte → List RxEvent × List RxByte
  | _, [] => ([], [])
  | skip + 1, _ :: rest => hunt skip rest
  | 0, b :: rest =>
    if b.byte ≠ 0xC3 then hunt 0 rest
    else
      match judge (rest.map RxByte.byte) with
      | .unfinished => ([], b :: rest)
      | .faulty f =>
        let r := hunt 0 rest
        (.discard f :: r.1, r.2)
      | .complete kindByte f =>
        let r := hunt (f.payload.length + 4) rest
        (.frame kindByte f :: r.1, r.2)

/-- An event acting on the HLM: a count increases, or the frame is taken by R173. -/
def applyRx (s : State) : RxEvent → State
  | .discard .kind => s.setHlm { s.hlm with kindErrors := satAdd 65535 s.hlm.kindErrors 1 }
  | .discard .length => s.setHlm { s.hlm with lengthErrors := satAdd 65535 s.hlm.lengthErrors 1 }
  | .discard .check => s.setHlm { s.hlm with checkErrors := satAdd 65535 s.hlm.checkErrors 1 }
  | .frame kindByte f => joinQueue kindByte f s

/-- The gap timer of the bytes of a partial frame: 2 ms from the end of the last one; cancelled in HUNTING (R172). DEDUCED
(log 23): so it is too where the bytes behind a discarded SYNC make a partial frame, and the timer may then be due already. -/
def gapTimerOf (rx : List RxByte) : Timer :=
  match rx.getLast? with
  | some b => .running (b.time + 2)
  | none => .cancelled

/-- The receiver takes up the bytes `rx` from HUNTING. -/
def receive (rx : List RxByte) (s : State) : State :=
  let r := hunt 0 rx
  r.1.foldl applyRx (s.setHlm { s.hlm with rx := r.2, gapTimer := gapTimerOf r.2 })

/-- BYTE_RECEIVED (R172, R173). A byte whose stop bit is missing is taken with its data bits like any other (R170). -/
def execByteReceived (byte : Byte) (s : State) (_stopBit : Bool := true) :
    Host.Outcome State Fault Refusal :=
  .next (receive (s.hlm.rx ++ [{ byte := byte, time := s.partTime }]) s)

/-- GAP_TIMER_EXPIRY (R172): within a frame it is discarded and counted, and the receiver hunts again behind its SYNC. A
timer that is not due has no expiry (log 5). -/
def execGapTimerExpiry (s : State) : Host.Outcome State Fault Refusal :=
  if s.hlm.gapTimer.due s.partTime then
    .next (receive s.hlm.rx.tail (s.setHlm { s.hlm with gapErrors := satAdd 65535 s.hlm.gapErrors 1 }))
  else .next s

end Sys2Proof.Machine
end

