-- ==== Sys2Proof/Machine/LineInputs.lean ====
section
/-! DEFINITION. The line input filter (chapter 1, R1 to R5). -/

namespace Sys2Proof.Machine

/-- One sample of one line (R1): the filter after it, and the new level if the level changes. -/
def LineFilter.sample (f : LineFilter) (pinHigh : Bool) : LineFilter × Option Bool :=
  let isActive := pinHigh != f.activeLow
  if isActive = f.level then ({ f with count := 0 }, none)
  else if f.count + 1 < f.stages then ({ f with count := f.count + 1 }, none)
  else ({ f with count := 0, level := isActive }, some isActive)

/-- The deliveries of a line event (R2): to each consumer of the line, and to the UFE as a LINE_EVENT record. Each carries
the line, its level and the part time of the sample, which the record holds as its timestamp. -/
def lineEvent (s : State) (line : Line) (asserted : Bool) : State :=
  let record : Instr := .recordOffer (.lineEvent line asserted s.stamp)
  match line with
  | .frontHall => s.emits [.haeHallEvent .front asserted s.partTime, .pclHallEvent .front asserted s.partTime, record]
  | .rearHall => s.emits [.haeHallEvent .rear asserted s.partTime, .pclHallEvent .rear asserted s.partTime, record]
  | .dockContact => s.emits [.dockContactEvent asserted s.partTime, record]
  | .penContact => s.emits [if asserted then .penInsertion s.partTime else .penRemoval s.partTime, record]

/-- The line event of a sample that changed the level, if it did. -/
def lineEventOf (line : Line) (change : Option Bool) (s : State) : State :=
  match change with
  | some asserted => lineEvent s line asserted
  | none => s

/-- LIF_SAMPLE (R1, R2). The 1 ms sample is also the model's millisecond: part time advances by one before the lines
are sampled (log 3). -/
def execLifSample (frontHall rearHall dockContact penContact : Bool) (s : State) :
    Host.Outcome State Fault Refusal :=
  let f := s.lif.frontHall.sample frontHall
  let r := s.lif.rearHall.sample rearHall
  let d := s.lif.dockContact.sample dockContact
  let p := s.lif.penContact.sample penContact
  let s' := { s with partTime := s.partTime + 1 }.setLif
    { frontHall := f.1, rearHall := r.1, dockContact := d.1, penContact := p.1 }
  .next (lineEventOf .penContact p.2 (lineEventOf .dockContact d.2
    (lineEventOf .rearHall r.2 (lineEventOf .frontHall f.2 s'))))

end Sys2Proof.Machine
end

