-- ==== Sys2Proof/Machine/SleepWake.lean ====
section
/-! DEFINITION. The sleep/wake arbiter (chapter 9, R140 to R154). -/

namespace Sys2Proof.Machine

/-! ### Shared steps -/

/-- The idle timer started with IDLE_TIMEOUT, or left cancelled with IDLE_TIMEOUT 0 (R141, R145). -/
def startIdle (s : State) : State :=
  s.setSwa { s.swa with
    idleTimer := if s.swa.idleTimeout = 0 then .cancelled else s.timer (s.swa.idleTimeout * 1000) }

/-- A standing advice is withdrawn with its record (R147). -/
def withdraw (cause : WithdrawCause) (s : State) : State :=
  match s.swa.advice with
  | none => s
  | some reason => (s.setSwa { s.swa with advice := none }).offer (.sleep (.withdrawn reason cause) s.stamp)

/-- Advice is offered and recorded (R145, R146). -/
def advise (reason : AdviceReason) (s : State) : State :=
  (s.setSwa { s.swa with advice := some reason }).offer (.sleep (.advice reason s.swa.cls) s.stamp)

/-- An activity event (R141). -/
def activity (a : Activity) (s : State) : State :=
  startIdle (if s.swa.platform = .awake then withdraw (.activity a) s else s)

/-- The bit of a reason in the wake reason set. -/
def WakeReason.bit (r : WakeReason) : BitVec 9 := 1#9 <<< r.code

/-- The wake is raised, or a raised wake gathers the reason (R142, R148, R150). -/
def wakeFor (r : WakeReason) (s : State) : State :=
  let set := s.swa.wakeSet ||| r.bit
  if s.swa.wakeRaised then s.setSwa { s.swa with wakeSet := set }
  else (s.setSwa { s.swa with wakeRaised := true, wakeSet := set }).offer (.sleep (.wake r set) s.stamp)

/-- Whether WAKE_MASK includes a kind (9.6). -/
def masked (mask : Byte) (r : WakeReason) : Bool := mask.getLsbD r.code

/-- A wake-class event (R142): its time is recorded, and while ASLEEP a masked-in kind serves the wake. -/
def wakeClass (r : WakeReason) (s : State) : State :=
  let s' := s.setSwa { s.swa with lastWake := some s.partTime }
  if s'.swa.platform = .asleep ∧ masked s'.swa.wakeMask r then wakeFor r s' else s'

/-- The WAKE line: asserted while wake raised is yes (9.1). -/
def Swa.wakeLine (a : Swa) : Bool := a.wakeRaised

/-! ### Occurrences (R140): first as a wake-class event, then as an activity event -/

/-- KEY_OCCURRENCE. -/
def execKeyOccurrence (s : State) : Host.Outcome State Fault Refusal :=
  .next (activity .key (wakeClass .key (s.took .keyOccurrence)))

/-- POINTER_OCCURRENCE. -/
def execPointerOccurrence (s : State) : Host.Outcome State Fault Refusal :=
  .next (activity .pointer (wakeClass .pointer (s.took .pointerOccurrence)))

/-- DOCK_ATTACH. -/
def execDockAttach (s : State) : Host.Outcome State Fault Refusal :=
  .next (activity .dock (wakeClass .dockAttached (s.took .dockAttach)))

/-- DOCK_DETACH. -/
def execDockDetach (s : State) : Host.Outcome State Fault Refusal :=
  .next (activity .dock (wakeClass .dockDetached (s.took .dockDetach)))

/-- ROTATION_OCCURRENCE: an activity event alone. -/
def execRotationOccurrence (s : State) : Host.Outcome State Fault Refusal :=
  .next (activity .rotation (s.took .rotationOccurrence))

/-- PEN_INSERTED_OCCURRENCE. -/
def execPenInsertedOccurrence (s : State) : Host.Outcome State Fault Refusal :=
  .next (activity .pen (wakeClass .penInserted (s.took .penInsertedOccurrence)))

/-- PEN_REMOVED_OCCURRENCE. -/
def execPenRemovedOccurrence (s : State) : Host.Outcome State Fault Refusal :=
  .next (activity .pen (wakeClass .penRemoved (s.took .penRemovedOccurrence)))

/-- LID_MOTION_OCCURRENCE: an activity event when the mark is on. -/
def execLidMotionOccurrence (isActivity : Bool) (s : State) : Host.Outcome State Fault Refusal :=
  let s' := wakeClass .motion (s.took (.lidMotionOccurrence isActivity))
  .next (if isActivity then activity .motion s' else s')

/-! ### Classes and timers (R143 to R146) -/

/-- What a closed-hold expiry does (R146). -/
def closedHoldAct (s : State) : State :=
  match s.swa.platform, s.swa.advice with
  | .awake, none => advise .lidClosed s
  | .awake, some .idle => advise .lidClosed s
  | _, _ => s

/-- Step 3 of R143: the closed-hold timer at an acceptance. With CLOSED_HOLD 0 it is not started (R146). -/
def holdStep (old new : SleepClass) (s : State) : State :=
  if old = .closed then
    if new = .closed then s else s.setSwa { s.swa with holdTimer := .cancelled }
  else if new = .closed ∧ s.swa.closedHold ≠ 0 then s.setSwa { s.swa with holdTimer := s.timer s.swa.closedHold }
  else s

/-- ACCEPTANCE_NOTICE (R143); with CLOSED_HOLD 0 an entry to the CLOSED class takes the expiry at once, after
step 4 (R146). -/
def execAcceptanceNotice (old new : SleepClass) (s : State) : Host.Outcome State Fault Refusal :=
  let s' := s.took (.acceptanceNotice old new)
  let s1 := if old = .closed ∧ new ≠ .closed then wakeClass .lidOpened s' else s'
  let s2 := holdStep old new (s1.setSwa { s1.swa with cls := new })
  let s3 := activity .posture s2
  .next (if old ≠ .closed ∧ new = .closed ∧ s3.swa.closedHold = 0 then closedHoldAct s3 else s3)

/-- The cancelling and withdrawing of a class change without acceptance (R144). -/
def classLeft (old new : SleepClass) (s : State) : State :=
  let s1 := if old = .closed ∧ new ≠ .closed then s.setSwa { s.swa with holdTimer := .cancelled } else s
  if (old = .closed ∧ new ≠ .closed ∧ s1.swa.advice = some .lidClosed) ∨ new = .none then withdraw .sleepClass s1
  else s1

/-- SLEEP_CLASS_CHANGE (R144). -/
def execSleepClassChange (cls : SleepClass) (s : State) : Host.Outcome State Fault Refusal :=
  let s' := s.took (.sleepClassChange cls)
  let s1 := classLeft s'.swa.cls cls (s'.setSwa { s'.swa with cls := cls })
  .next (if s1.swa.idleTimer = .cancelled then startIdle s1 else s1)

/-- IDLE_TIMER_EXPIRY (R145). The expiry of a timer that an activity event has restarted does not occur (R151, log 5). -/
def execIdleTimerExpiry (s : State) : Host.Outcome State Fault Refusal :=
  if s.swa.idleTimer.due s.partTime then
    let s' := s.setSwa { s.swa with idleTimer := .cancelled }
    if s'.swa.platform = .awake ∧ s'.swa.cls ≠ .none ∧ s'.swa.advice = none then .next (advise .idle s') else .next s'
  else .next s

/-- CLOSED_HOLD_EXPIRY (R146). The expiry of a timer that has been cancelled or restarted does not occur (R151, log 5). -/
def execClosedHoldExpiry (s : State) : Host.Outcome State Fault Refusal :=
  if s.swa.holdTimer.due s.partTime then .next (closedHoldAct (s.setSwa { s.swa with holdTimer := .cancelled }))
  else .next s

/-! ### Platform state (R148, R149) -/

/-- Whether the wake guard applies now (R148 step 3). -/
def guardApplies (s : State) : Bool :=
  match s.swa.lastWake with
  | none => false
  | some t => (s.partTime - t).toNat ≤ s.swa.wakeGuard

/-- The four steps of an ASLEEP declaration (R148). -/
def declareAsleep (s : State) : State :=
  let s1 := s.setSwa { s.swa with platform := .asleep, advice := none }
  let s2 := if guardApplies s1 then wakeFor .recentActivity s1 else s1
  s2.emits [.triggerDelivery .platformAsleep, .columnChange .asleep]

/-- SET_PLATFORM_STATE_ASLEEP (R148). -/
def execSetPlatformStateAsleep (tag : Byte) (s : State) : Host.Outcome State Fault Refusal :=
  let c : Instr := .setPlatformStateAsleep tag
  .next (answerOk c tag 0x08 (declareAsleep (s.took c)))

/-- The four steps of an AWAKE declaration (R149). -/
def declareAwake (s : State) : State :=
  let s1 := startIdle (s.setSwa { s.swa with platform := .awake, wakeRaised := false, wakeSet := 0 })
  s1.emits [.triggerDelivery .platformAwake, .columnChange .awake]

/-- SET_PLATFORM_STATE_AWAKE (R149). -/
def execSetPlatformStateAwake (tag : Byte) (s : State) : Host.Outcome State Fault Refusal :=
  let c : Instr := .setPlatformStateAwake tag
  .next (answerOk c tag 0x08 (declareAwake (s.took c)))

end Sys2Proof.Machine
end

