-- ==== Sys2Proof/Machine/Supply.lean ====
section
/-! DEFINITION. The supply sharing unit (chapter 7, R111 to R119). -/

namespace Sys2Proof.Machine

/-- The coil current ceiling from the rail budget and the allowance (R112). -/
def coilCeilingOf (budget : Nat) : Allowance → Nat
  | .allow => budget
  | .reduced => budget / 2
  | .deny => 0

/-- The duty ceiling (R113). -/
def dutyCeilingOf (ceiling coilFull dutyMax : Nat) : Nat := min (ceiling * 1024 / coilFull) dutyMax

/-- The budget pause judged against the new ceiling; under DENY it is kept (R114). -/
def judgePause (allowance : Allowance) (ceiling coilMin : Nat) (pause : Bool) : Bool :=
  if allowance = .deny then pause
  else if ceiling < coilMin then true
  else if coilMin + 50 ≤ ceiling then false
  else pause

/-- The unit recomputed from its recorded inputs and parameters (R112 to R114). A difference below 0 is taken
as 0. -/
def Ssu.recomputed (u : Ssu) : Ssu :=
  let budget := u.railLimit - u.railReserve - u.draw
  let ceiling := coilCeilingOf budget u.allowance
  { u with
    railBudget := budget
    coilCeiling := ceiling
    dutyCeiling := dutyCeilingOf ceiling u.coilFull u.dutyMax
    budgetPause := judgePause u.allowance ceiling u.coilMin u.budgetPause }

/-- A recomputation on the unit `u`, whose input has been recorded, and the hand-over to the charger of the three
values if one differs from before (R111, R116). -/
def supplyEvent (u : Ssu) (s : State) : State :=
  let new := u.recomputed
  let s' := s.setSsu new
  if new.allowance = s.ssu.allowance ∧ new.dutyCeiling = s.ssu.dutyCeiling ∧ new.budgetPause = s.ssu.budgetPause
  then s'
  else s'.emit (.ssuResultDelivery new.allowance new.dutyCeiling new.budgetPause)

/-- DRAW_DELIVERY (R111). -/
def execDrawDelivery (draw : Nat) (s : State) : Host.Outcome State Fault Refusal :=
  let s' := s.took (.drawDelivery draw)
  .next (supplyEvent { s'.ssu with draw := draw } s')

/-- ALLOWANCE_DELIVERY (R111). -/
def execAllowanceDelivery (allowance : Allowance) (s : State) : Host.Outcome State Fault Refusal :=
  let s' := s.took (.allowanceDelivery allowance)
  .next (supplyEvent { s'.ssu with allowance := allowance } s')

end Sys2Proof.Machine
end

