-- ==== Sys2Proof/Machine/Params.lean ====
section
/-! DEFINITION. The parameters (11.7.4): their ids, ranges and values in force, and SET_PARAM and GET_PARAM (R177). -/

namespace Sys2Proof.Machine

/-- The parameters, in id order (11.7.4). -/
inductive Param where
  | frontHallStages
  | rearHallStages
  | dockContactStages
  | penContactStages
  | frontHallPolarity
  | rearHallPolarity
  | dockContactPolarity
  | penContactPolarity
  | samplePeriod
  | pollPeriod
  | answerTimeout
  | attachTimeout
  | missLimit
  | dockDefaultDraw
  | filterShift
  | motionThreshold
  | motionIsActivity
  | projectionMin
  | hingeCal
  | hingeDeadband
  | faceT
  | rotMin
  | rotHyst
  | rotDwell
  | railLimit
  | railReserve
  | coilFull
  | dutyMax
  | coilMin
  | regInterval
  | probeMin
  | regBand
  | regStep
  | ocLimit
  | rechargeInterval
  | idleTimeout
  | closedHold
  | wakeGuard
  | wakeMask
  | busyOn
  | busyOff
  deriving DecidableEq, Repr

/-- The parameter of an id, or none for an id not listed (11.7.4). -/
def paramOf (id : Byte) : Option Param :=
  match id.toNat with
  | 0x10 => some .frontHallStages
  | 0x11 => some .rearHallStages
  | 0x12 => some .dockContactStages
  | 0x13 => some .penContactStages
  | 0x14 => some .frontHallPolarity
  | 0x15 => some .rearHallPolarity
  | 0x16 => some .dockContactPolarity
  | 0x17 => some .penContactPolarity
  | 0x18 => some .samplePeriod
  | 0x20 => some .pollPeriod
  | 0x21 => some .answerTimeout
  | 0x22 => some .attachTimeout
  | 0x23 => some .missLimit
  | 0x24 => some .dockDefaultDraw
  | 0x30 => some .filterShift
  | 0x31 => some .motionThreshold
  | 0x32 => some .motionIsActivity
  | 0x33 => some .projectionMin
  | 0x34 => some .hingeCal
  | 0x35 => some .hingeDeadband
  | 0x36 => some .faceT
  | 0x40 => some .rotMin
  | 0x41 => some .rotHyst
  | 0x42 => some .rotDwell
  | 0x70 => some .railLimit
  | 0x71 => some .railReserve
  | 0x72 => some .coilFull
  | 0x73 => some .dutyMax
  | 0x74 => some .coilMin
  | 0x80 => some .regInterval
  | 0x81 => some .probeMin
  | 0x82 => some .regBand
  | 0x83 => some .regStep
  | 0x84 => some .ocLimit
  | 0x85 => some .rechargeInterval
  | 0x90 => some .idleTimeout
  | 0x91 => some .closedHold
  | 0x92 => some .wakeGuard
  | 0x93 => some .wakeMask
  | 0xB0 => some .busyOn
  | 0xB1 => some .busyOff
  | _ => none

/-- A parameter's range, as its chapter lists it (R3, R6, R23, R63, R75, R115, R137, R152, R174). BUSY_OFF is
bounded further by BUSY_ON in force. -/
def Param.range : Param → Int × Int
  | .frontHallStages => (1, 16)
  | .rearHallStages => (1, 16)
  | .dockContactStages => (1, 16)
  | .penContactStages => (1, 16)
  | .frontHallPolarity => (0, 1)
  | .rearHallPolarity => (0, 1)
  | .dockContactPolarity => (0, 1)
  | .penContactPolarity => (0, 1)
  | .samplePeriod => (1, 100)
  | .pollPeriod => (2, 32)
  | .answerTimeout => (200, 4000)
  | .attachTimeout => (100, 2000)
  | .missLimit => (1, 16)
  | .dockDefaultDraw => (0, 1000)
  | .filterShift => (0, 6)
  | .motionThreshold => (0, 8191)
  | .motionIsActivity => (0, 1)
  | .projectionMin => (256, 4096)
  | .hingeCal => (-512, 511)
  | .hingeDeadband => (0, 160)
  | .faceT => (1024, 4096)
  | .rotMin => (512, 4096)
  | .rotHyst => (0, 480)
  | .rotDwell => (0, 2000)
  | .railLimit => (200, 2000)
  | .railReserve => (0, 500)
  | .coilFull => (200, 2000)
  | .dutyMax => (0, 1023)
  | .coilMin => (20, 500)
  | .regInterval => (5, 50)
  | .probeMin => (5, 200)
  | .regBand => (0, 100)
  | .regStep => (1, 64)
  | .ocLimit => (200, 2047)
  | .rechargeInterval => (60, 7200)
  | .idleTimeout => (0, 3600)
  | .closedHold => (0, 10000)
  | .wakeGuard => (0, 10000)
  | .wakeMask => (0, 255)
  | .busyOn => (2, 8)
  | .busyOff => (0, 7)

/-- An off/on value. -/
def ofFlag (b : Bool) : Int := if b then 1 else 0

/-- The value in force. -/
def Param.get (s : State) : Param → Int
  | .frontHallStages => s.lif.frontHall.stages
  | .rearHallStages => s.lif.rearHall.stages
  | .dockContactStages => s.lif.dockContact.stages
  | .penContactStages => s.lif.penContact.stages
  | .frontHallPolarity => ofFlag s.lif.frontHall.activeLow
  | .rearHallPolarity => ofFlag s.lif.rearHall.activeLow
  | .dockContactPolarity => ofFlag s.lif.dockContact.activeLow
  | .penContactPolarity => ofFlag s.lif.penContact.activeLow
  | .samplePeriod => s.lsp.samplePeriod
  | .pollPeriod => s.dlc.pollPeriod
  | .answerTimeout => s.dlc.answerTimeout
  | .attachTimeout => s.dlc.attachTimeout
  | .missLimit => s.dlc.missLimit
  | .dockDefaultDraw => s.dlc.defaultDraw
  | .filterShift => s.hae.filterShift
  | .motionThreshold => s.hae.motionThreshold
  | .motionIsActivity => ofFlag s.hae.motionIsActivity
  | .projectionMin => s.hae.projectionMin
  | .hingeCal => s.hae.hingeCal
  | .hingeDeadband => s.hae.hingeDeadband
  | .faceT => s.hae.faceT
  | .rotMin => s.rot.rotMin
  | .rotHyst => s.rot.rotHyst
  | .rotDwell => s.rot.rotDwell
  | .railLimit => s.ssu.railLimit
  | .railReserve => s.ssu.railReserve
  | .coilFull => s.ssu.coilFull
  | .dutyMax => s.ssu.dutyMax
  | .coilMin => s.ssu.coilMin
  | .regInterval => s.pch.regInterval
  | .probeMin => s.pch.probeMin
  | .regBand => s.pch.regBand
  | .regStep => s.pch.regStep
  | .ocLimit => s.pch.ocLimit
  | .rechargeInterval => s.pch.rechargeInterval
  | .idleTimeout => s.swa.idleTimeout
  | .closedHold => s.swa.closedHold
  | .wakeGuard => s.swa.wakeGuard
  | .wakeMask => s.swa.wakeMask.toNat
  | .busyOn => s.hlm.busyOn
  | .busyOff => s.hlm.busyOff

/-! ### Clamping (R177) -/

/-- IDLE_TIMEOUT: below 0 becomes 0, 1..4 becomes 5, above 3600 becomes 3600. -/
def clampIdle (v : Int) : Int := if v ≤ 0 then 0 else clampInt 5 3600 v

/-- The value that a SET_PARAM applies. -/
def Param.clamp (s : State) (v : Int) (p : Param) : Int :=
  if p = .idleTimeout then clampIdle v
  else if p = .busyOff then clampInt 0 ((s.hlm.busyOn : Int) - 1) v
  else clampInt p.range.1 p.range.2 v

/-- Whether a SET_PARAM is answered ADJUSTED: the value was clamped, or a BUSY_ON lowers BUSY_OFF (R174). -/
def Param.adjusts (s : State) (v : Int) (p : Param) : Bool :=
  p.clamp s v != v || (p == .busyOn && p.clamp s v ≤ s.hlm.busyOff)

/-! ### Applying a value -/

/-- A line with a new stage count: its agreement count restarts (R3). -/
def LineFilter.restaged (f : LineFilter) (n : Nat) : LineFilter := { f with stages := n, count := 0 }

/-- A line with a new polarity: its agreement count restarts (R3). -/
def LineFilter.repolarised (f : LineFilter) (low : Bool) : LineFilter := { f with activeLow := low, count := 0 }

/-- IDLE_TIMEOUT: 0 cancels a running idle timer (R152). -/
def setIdleTimeout (n : Nat) (s : State) : State :=
  s.setSwa { s.swa with idleTimeout := n, idleTimer := if n = 0 then .cancelled else s.swa.idleTimer }

/-- BUSY_ON: lowers BUSY_OFF below it, and BUSY is judged (R174). -/
def setBusyOn (n : Nat) (s : State) : State :=
  let h := { s.hlm with busyOn := n, busyOff := min s.hlm.busyOff (n - 1) }
  s.setHlm { h with busy := h.busyJudged }

/-- BUSY_OFF, and BUSY is judged (R174). -/
def setBusyOff (n : Nat) (s : State) : State :=
  let h := { s.hlm with busyOff := n }
  s.setHlm { h with busy := h.busyJudged }

/-- A value within its range applied by the owning block. A line's count restarts (R3), a supply parameter makes one
recomputation (R115), and DOCK_DEFAULT_DRAW recomputes the draw (R35); a parameter of any other block is held until it is
used. -/
def Param.apply (v : Int) (s : State) : Param → State
  | .frontHallStages => s.setLif { s.lif with frontHall := s.lif.frontHall.restaged v.toNat }
  | .rearHallStages => s.setLif { s.lif with rearHall := s.lif.rearHall.restaged v.toNat }
  | .dockContactStages => s.setLif { s.lif with dockContact := s.lif.dockContact.restaged v.toNat }
  | .penContactStages => s.setLif { s.lif with penContact := s.lif.penContact.restaged v.toNat }
  | .frontHallPolarity => s.setLif { s.lif with frontHall := s.lif.frontHall.repolarised (v == 1) }
  | .rearHallPolarity => s.setLif { s.lif with rearHall := s.lif.rearHall.repolarised (v == 1) }
  | .dockContactPolarity => s.setLif { s.lif with dockContact := s.lif.dockContact.repolarised (v == 1) }
  | .penContactPolarity => s.setLif { s.lif with penContact := s.lif.penContact.repolarised (v == 1) }
  | .samplePeriod => s.setLsp { s.lsp with samplePeriod := v.toNat }
  | .pollPeriod => s.setDlc { s.dlc with pollPeriod := v.toNat }
  | .answerTimeout => s.setDlc { s.dlc with answerTimeout := v.toNat }
  | .attachTimeout => s.setDlc { s.dlc with attachTimeout := v.toNat }
  | .missLimit => s.setDlc { s.dlc with missLimit := v.toNat }
  | .dockDefaultDraw => recomputeDraw (s.setDlc { s.dlc with defaultDraw := v.toNat })
  | .filterShift => s.setHae { s.hae with filterShift := v.toNat }
  | .motionThreshold => s.setHae { s.hae with motionThreshold := v.toNat }
  | .motionIsActivity => s.setHae { s.hae with motionIsActivity := v == 1 }
  | .projectionMin => s.setHae { s.hae with projectionMin := v.toNat }
  | .hingeCal => s.setHae { s.hae with hingeCal := v }
  | .hingeDeadband => s.setHae { s.hae with hingeDeadband := v.toNat }
  | .faceT => s.setHae { s.hae with faceT := v.toNat }
  | .rotMin => s.setRot { s.rot with rotMin := v.toNat }
  | .rotHyst => s.setRot { s.rot with rotHyst := v.toNat }
  | .rotDwell => s.setRot { s.rot with rotDwell := v.toNat }
  | .railLimit => supplyEvent { s.ssu with railLimit := v.toNat } s
  | .railReserve => supplyEvent { s.ssu with railReserve := v.toNat } s
  | .coilFull => supplyEvent { s.ssu with coilFull := v.toNat } s
  | .dutyMax => supplyEvent { s.ssu with dutyMax := v.toNat } s
  | .coilMin => supplyEvent { s.ssu with coilMin := v.toNat } s
  | .regInterval => s.setPch { s.pch with regInterval := v.toNat }
  | .probeMin => s.setPch { s.pch with probeMin := v.toNat }
  | .regBand => s.setPch { s.pch with regBand := v.toNat }
  | .regStep => s.setPch { s.pch with regStep := v.toNat }
  | .ocLimit => s.setPch { s.pch with ocLimit := v.toNat }
  | .rechargeInterval => s.setPch { s.pch with rechargeInterval := v.toNat }
  | .idleTimeout => setIdleTimeout v.toNat s
  | .closedHold => s.setSwa { s.swa with closedHold := v.toNat }
  | .wakeGuard => s.setSwa { s.swa with wakeGuard := v.toNat }
  | .wakeMask => s.setSwa { s.swa with wakeMask := BitVec.ofInt 8 v }
  | .busyOn => setBusyOn v.toNat s
  | .busyOff => setBusyOff v.toNat s

/-- SET_PARAM (R177): the data is the value in force after the request. -/
def execSetParam (tag id : Byte) (value : BitVec 32) (s : State) : Host.Outcome State Fault Refusal :=
  let c : Instr := .setParam tag id value
  let s' := s.took c
  match paramOf id with
  | none => .next (answerStatus c tag 0x03 .badIndex s')
  | some p =>
    let t := p.apply (p.clamp s' value.toInt) s'
    .next (answer c tag 0x03 (if p.adjusts s' value.toInt then .adjusted else .ok) 0xFF (leInt32 (p.get t)) t)

/-- GET_PARAM (R177). -/
def execGetParam (tag id : Byte) (s : State) : Host.Outcome State Fault Refusal :=
  let c : Instr := .getParam tag id
  let s' := s.took c
  match paramOf id with
  | none => .next (answerStatus c tag 0x04 .badIndex s')
  | some p => .next (answer c tag 0x04 .ok 0xFF (leInt32 (p.get s')) s')

end Sys2Proof.Machine
end

