-- ==== Sys2Proof/Machine/PostureRows.lean ====
section
/-! DEFINITION. The posture classifier (chapter 5, R79 to R100). -/

namespace Sys2Proof.Machine

/-! ### Matching (R80) -/

/-- An absent condition is met; a present one is tested. -/
def met {α : Type} (condition : Option α) (test : α → Bool) : Bool :=
  match condition with
  | none => true
  | some c => test c

/-- Whether a dock condition is met. -/
def DockCondition.holds (c : DockCondition) (d : DockState) : Bool :=
  match c with
  | .attached => d == .attached
  | .notAttached => d != .attached

/-- Whether the reported hinge lies in the pair, both bounds inclusive; UNKNOWN fails. -/
def hingeWithin (pair : Nat × Nat) (hinge : Option Nat) : Bool :=
  match hinge with
  | none => false
  | some h => pair.1 ≤ h && h ≤ pair.2

/-- Whether a row matches the recorded inputs (R80). -/
def rowMatches (p : Pcl) (r : PostureRow) : Bool :=
  r.inUse
  && met r.hinge (fun pair => hingeWithin pair p.hinge)
  && (!r.needGood || p.quality == .good)
  && met r.dock (fun c => c.holds p.dock)
  && met r.front (fun a => a == p.front)
  && met r.rear (fun a => a == p.rear)
  && met r.face (fun f => f == p.face)

/-- The matched row: the first row of the active bank that matches (R83). -/
def matchedRow (p : Pcl) : Option Nat := p.active.findIdx? (rowMatches p)

/-- A row of the active bank; an index beyond the bank reads as an unused row. -/
def Pcl.rowAt (p : Pcl) (i : Nat) : PostureRow := p.active.getD i unusedPostureRow

/-! ### Publishing (R88 to R90) -/

/-- The candidate cancelled, and the dwell timer with it (5.2). -/
def Pcl.cancel (p : Pcl) : Pcl := { p with candidate := none, timer := .cancelled }

/-- The outputs of a row, or the fallback outputs (R90). -/
def Pcl.outputsOf (p : Pcl) (row : Option Nat) : Outputs :=
  match row with
  | some i => (p.rowAt i).out
  | none => fallbackOutputs

/-- A delivery made only when a value has changed. -/
def changed {α : Type} [DecidableEq α] (old new : α) (c : Instr) : List Instr := if old = new then [] else [c]

/-- The two gate deliveries, each when its value differs, the key gate first (R88, R89). R88 lists this order for an
acceptance. DESIGN CHOICE (log 39): a change of row that is no acceptance has it too, for which R89 gives no order. -/
def gateDeliveries (old new : Outputs) : List Instr :=
  changed old.keyGate new.keyGate (.gateDelivery .key new.keyGate)
  ++ changed old.pointerGate new.pointerGate (.gateDelivery .pointer new.pointerGate)

/-- A change of the current row that is not an acceptance publishes each output that differs (R89, log 39). -/
def publishRow (row : Option Nat) (s : State) : State :=
  let old := s.pcl.published
  let new := s.pcl.outputsOf row
  (s.setPcl { s.pcl with row := row, published := new }).emits
    (gateDeliveries old new
      ++ changed old.policy new.policy (.policyDelivery new.policy false)
      ++ changed old.allowance new.allowance (.allowanceDelivery new.allowance)
      ++ changed old.sleep new.sleep (.sleepClassChange new.sleep))

/-- The leave trigger of the old posture, absent at the first acceptance after a reset (R88). -/
def leaveTrigger (old : Option Posture) : List Instr :=
  match old with
  | some p => [.triggerDelivery (.postureLeave p)]
  | none => []

/-- Acceptance of candidate row `i` (R87), with the deliveries of R88. -/
def acceptPosture (i : Nat) (s : State) : State :=
  let row := s.pcl.rowAt i
  let old := s.pcl.published
  let new := row.out
  (s.setPcl { s.pcl.cancel with posture := some row.posture, row := some i, published := new }).emits
    ([.recordOffer (.posture s.pcl.posture row.posture i s.pcl.hinge s.pcl.dock s.stamp)]
      ++ gateDeliveries old new
      ++ [.policyDelivery new.policy true]
      ++ changed old.allowance new.allowance (.allowanceDelivery new.allowance)
      ++ leaveTrigger s.pcl.posture
      ++ [.triggerDelivery (.postureEnter row.posture), .acceptanceNotice old.sleep new.sleep])

/-! ### Evaluation (R83 to R86) -/

/-- A new or replacing candidate row: waits for its dwell, or is accepted at once under a dwell of 0 (R86). -/
def startPosture (i : Nat) (s : State) : State :=
  if (s.pcl.rowAt i).dwell = 0 then acceptPosture i s
  else s.setPcl { s.pcl with candidate := some i, timer := s.timer (s.pcl.rowAt i).dwell }

/-- The matched row's posture differs from the current one: it acts on the candidate (R86). DESIGN CHOICE (log 34): a row of
dwell 0 that matches while a candidate of its posture waits takes the candidate's place and waits on, as R86's second line
has it, although R86 also says that such a row never stands as a candidate and R96 that it is accepted when it matches. -/
def candidateCase (i : Nat) (s : State) : State :=
  match s.pcl.candidate with
  | some c =>
    if (s.pcl.rowAt c).posture = (s.pcl.rowAt i).posture then s.setPcl { s.pcl with candidate := some i }
    else startPosture i s
  | none => startPosture i s

/-- The matched row names the current posture: the candidate is cancelled and the row takes over (R85). -/
def samePosture (i : Nat) (s : State) : State :=
  let s' := s.setPcl s.pcl.cancel
  if s'.pcl.row = some i then s' else publishRow (some i) s'

/-- An evaluation (R83). -/
def evaluate (s : State) : State :=
  match matchedRow s.pcl with
  | none => s.setPcl { s.pcl.cancel with noMatch := true }
  | some i =>
    let s' := s.setPcl { s.pcl with noMatch := false }
    if s'.pcl.posture = some (s'.pcl.rowAt i).posture then samePosture i s' else candidateCase i s'

/-- HINGE_DELIVERY (R79). -/
def execHingeDelivery (hinge : Option Nat) (quality : Quality) (face : BaseFace) (s : State) :
    Host.Outcome State Fault Refusal :=
  let s' := s.took (.hingeDelivery hinge quality face)
  .next (evaluate (s'.setPcl { s'.pcl with hinge := hinge, quality := quality, face := face }))

/-- PCL_DOCK_STATE_DELIVERY (R79). -/
def execPclDockStateDelivery (state : DockState) (s : State) : Host.Outcome State Fault Refusal :=
  let s' := s.took (.pclDockStateDelivery state)
  .next (evaluate (s'.setPcl { s'.pcl with dock := state }))

/-- The classifier with a hall level recorded (R79). -/
def Pcl.recordHall (p : Pcl) (hall : Hall) (asserted : Bool) : Pcl :=
  match hall with
  | .front => { p with front := asserted }
  | .rear => { p with rear := asserted }

/-- PCL_HALL_EVENT (R79). -/
def execPclHallEvent (hall : Hall) (asserted : Bool) (s : State) (time : PartTime := 0) :
    Host.Outcome State Fault Refusal :=
  let s' := s.took (.pclHallEvent hall asserted time)
  .next (evaluate (s'.setPcl (s'.pcl.recordHall hall asserted)))

/-- POSTURE_DWELL_EXPIRY (R87). The expiry of a timer that an evaluation or a commit has cancelled or restarted does not
occur (R94, R95, log 5). -/
def execPostureDwellExpiry (s : State) : Host.Outcome State Fault Refusal :=
  match s.pcl.candidate with
  | some i => if s.pcl.timer.due s.partTime then .next (acceptPosture i s) else .next s
  | none => .next s

/-! ### Commit and requests (R81, R91 to R93) -/

/-- The lowest-numbered row in use that names the current posture (R91 step 3). -/
def remappedRow (p : Pcl) : Option Nat :=
  match p.posture with
  | none => none
  | some q => p.active.findIdx? fun r => r.inUse && r.posture == q

/-- A commit that is carried out: the five steps of R91. -/
def commitPostures (s : State) : State :=
  let s1 := s.setPcl { s.pcl.cancel with active := s.pcl.pending }
  evaluate (publishRow (remappedRow s1.pcl) s1)

/-- COMMIT_POSTURE (R91): refused when no pending row is in use. -/
def execCommitPosture (tag : Byte) (s : State) : Host.Outcome State Fault Refusal :=
  let c : Instr := .commitPosture tag
  let s' := s.took c
  if s'.pcl.pending.any PostureRow.inUse then .next (answerOk c tag 0x07 (commitPostures s'))
  else .next (answerStatus c tag 0x07 .badState s')

/-- CLEAR_NO_MATCH (R93). -/
def execClearNoMatch (tag : Byte) (s : State) : Host.Outcome State Fault Refusal :=
  let c : Instr := .clearNoMatch tag
  let s' := s.took c
  .next (answerOk c tag 0x0B (s'.setPcl { s'.pcl with noMatch := false }))

/-- WRITE_ROWS_POSTURE (R81): the rows go to the pending bank. -/
def execWriteRowsPosture (tag start count : Byte) (rows : List Byte) (s : State) :
    Host.Outcome State Fault Refusal :=
  let c : Instr := .writeRowsPosture tag start count rows
  .next (answerRows c tag (checkRows readPostureRow 23 16 start count rows)
    (fun rs s => s.setPcl { s.pcl with pending := replaceRows s.pcl.pending start.toNat rs }) (s.took c))

end Sys2Proof.Machine
end

