-- ==== Sys2Proof/Machine/Requests.lean ====
section
/-! DEFINITION. The management requests of the host link unit itself (chapter 11, R176 to R181). -/

namespace Sys2Proof.Machine

/-- The data of one answer has used its free values (log 7). -/
def State.freeUsed (s : State) : State := { s with freeCount := s.freeCount + 1 }

/-- REQUEST_UNKNOWN_CODE (R176): BAD_REQUEST, with the code as received, or 0x00 for an empty payload. -/
def execRequestUnknownCode (tag : Byte) (payload : List Byte) (s : State) : Host.Outcome State Fault Refusal :=
  let c : Instr := .requestUnknownCode tag payload
  .next (answerStatus c tag (payload.headD 0x00) .badRequest (s.took c))

/-- IDENTIFY (R178). -/
def execIdentify (tag : Byte) (s : State) : Host.Outcome State Fault Refusal :=
  let c : Instr := .identify tag
  .next (answer c tag 0x01 .ok 0xFF identifyData (s.took c))

/-- GET_STATUS (R178): the section's snapshot. -/
def execGetStatus (tag sect : Byte) (s : State) : Host.Outcome State Fault Refusal :=
  let c : Instr := .getStatus tag sect
  let s' := s.took c
  match statusSection s' sect.toNat with
  | some data => .next (answer c tag 0x02 .ok 0xFF data s'.freeUsed)
  | none => .next (answerStatus c tag 0x02 .badIndex s')

/-! ### READ_ROWS (R179) -/

/-- A table's row size, its number of rows, and whether it is banked. -/
structure TableShape where
  size : Nat
  rows : Nat
  banked : Bool

/-- The tables by code (11.7.2, 11.7.3). -/
def tableShape : Nat → Option TableShape
  | 0 => some ⟨10, 1, false⟩
  | 1 => some ⟨10, 1, false⟩
  | 2 => some ⟨23, 16, true⟩
  | 3 => some ⟨16, 12, true⟩
  | 4 => some ⟨10, 6, true⟩
  | 5 => some ⟨9, 4, false⟩
  | _ => none

/-- The checks of step 3 on a READ_ROWS. -/
def TableShape.covers (t : TableShape) (bank start count : Nat) : Bool :=
  count ≠ 0 && start + count ≤ t.rows && count * t.size ≤ 56 && (bank = 0 || bank = 1 && t.banked)

/-- Consecutive rows of a bank, encoded. -/
def encodeRows {α : Type} (size : Nat) (enc : Nat → α → List Byte) (rows : List α) (start count : Nat) : List Byte :=
  rowsBytes size enc 0 ((rows.drop start).take count)

/-- The rows of a table as they stand; bank 1 is PENDING. -/
def tableData (s : State) (table bank start count : Nat) : List Byte :=
  match table with
  | 0 => encodeRows 10 (fun _ m => m.bytes) [s.lsp.mount] start count
  | 1 => encodeRows 10 (fun _ m => m.bytes) [s.dlc.mount] start count
  | 2 => encodeRows 23 (PostureRow.bytes s.freeCount) (if bank = 1 then s.pcl.pending else s.pcl.active) start count
  | 3 => encodeRows 16 (RouteEntry.bytes s.freeCount) (if bank = 1 then s.ufe.pending else s.ufe.active) start count
  | 4 => encodeRows 10 (ProfileRow.bytes s.freeCount) (if bank = 1 then s.pch.pending else s.pch.active) start count
  | 5 => encodeRows 9 (ActionLine.bytes s.freeCount) [s.alu.al0, s.alu.al1, s.alu.al2, s.alu.al3] start count
  | _ => []

/-- READ_ROWS (R179). -/
def execReadRows (tag table bank start count : Byte) (s : State) : Host.Outcome State Fault Refusal :=
  let c : Instr := .readRows tag table bank start count
  let s' := s.took c
  match tableShape table.toNat with
  | none => .next (answerStatus c tag 0x06 .badRequest s')
  | some t =>
    if t.covers bank.toNat start.toNat count.toNat then
      .next (answer c tag 0x06 .ok 0xFF (tableData s' table.toNat bank.toNat start.toNat count.toNat) s'.freeUsed)
    else .next (answerStatus c tag 0x06 .badIndex s')

/-! ### CLEAR(LINK_ERRORS) and SOFT_RESET (R180, R181) -/

/-- CLEAR_LINK_ERRORS (R180). -/
def execClearLinkErrors (tag : Byte) (s : State) : Host.Outcome State Fault Refusal :=
  let c : Instr := .clearLinkErrors tag
  let s' := s.took c
  .next (answerOk c tag 0x0B (s'.setHlm { s'.hlm with
    checkErrors := 0, kindErrors := 0, lengthErrors := 0, gapErrors := 0, overruns := 0, lastLost := none }))

/-- SOFT_RESET (R181): the RESPONSE is offered marked final, the frame leaves, and no further head is taken up. -/
def execSoftReset (tag : Byte) (s : State) : Host.Outcome State Fault Refusal :=
  let c : Instr := .softReset tag
  let s' := (s.took c).offer (.response tag 0x0E .ok 0xFF [] true)
  .next (if headIs c s' then popHead s' .resetting else s'.setHlm { s'.hlm with head := .resetting })

end Sys2Proof.Machine
end

