-- ==== Sys2Proof/Machine/Resets.lean ====
section
/-! DEFINITION. Carrying out the two kinds of reset (chapter 11, R181 and R182). -/

namespace Sys2Proof.Machine

/-! ### SOFT_RESET (R181) -/

/-- A received byte with its time on the part time that restarts at 0 (R181: the receiver is kept). -/
def RxByte.rebased (now : PartTime) (b : RxByte) : RxByte := { b with time := b.time - now }

/-- A timer with its expiry on the part time that restarts at 0. -/
def Timer.rebased (now : PartTime) : Timer → Timer
  | .cancelled => .cancelled
  | .running expiry => .running (expiry - now)

/-- The HLM after a SOFT_RESET: the link rate and the receiver are kept, all else is as at power-on (11.1, R181). -/
def hlmSoftReset (now : PartTime) (h : Hlm) : Hlm :=
  { hlmReset h.fastLink with rx := h.rx.map (RxByte.rebased now), gapTimer := h.gapTimer.rebased now }

/-- The DLC after a SOFT_RESET (R41): an exchange in progress is abandoned, and its late answer is ignored. -/
def dlcSoftReset (s : State) : Dlc := { dlcReset with stray := (abandonExchange s).dlc.stray }

/-- Every block takes its SOFT_RESET values and part time restarts at 0 (R181). Deliveries in flight are lost with the
rest of the state (log 15). The HOLD level is the input's, which the UFE records (R166, R168). -/
def softResetCarriedOut (s : State) : State :=
  { partTime := 0, lif := lifReset, lsp := lspReset, dlc := dlcSoftReset s, hae := haeReset, rot := rotReset
    pcl := pclReset, alu := aluReset, ssu := ssuReset, pch := pchReset, swa := swaReset
    ufe := ufeReset s.ufe.hold, hlm := hlmSoftReset s.partTime s.hlm
    inflight := [], freeCount := s.freeCount, pending := s.pending }

/-! ### Power-on reset (R182) -/

/-- POWER_ON_RESET (R182): every block takes its power-on values, with the rate from RATE_SEL (R170) and the HOLD level
from the input (R168). -/
def execPowerOnReset (rateSel hold : Bool) (s : State) : Host.Outcome State Fault Refusal :=
  .next
    { partTime := 0, lif := lifReset, lsp := lspReset, dlc := dlcReset, hae := haeReset, rot := rotReset
      pcl := pclReset, alu := aluReset, ssu := ssuReset, pch := pchReset, swa := swaReset
      ufe := ufeReset hold, hlm := hlmReset rateSel
      inflight := [], freeCount := s.freeCount, pending := s.pending }

end Sys2Proof.Machine
end

