-- ==== Sys2Proof/Machine/Rotation.lean ====
section
/-! DEFINITION. The rotation unit (chapter 4, R67 to R78). -/

namespace Sys2Proof.Machine

/-- The centre of a rotation state, in AU. -/
def Rot.centre : Rot → Nat
  | .rot0 => 0 | .rot90 => 1440 | .rot180 => 2880 | .rot270 => 4320

/-- Whether the unit is deciding: the lock is off and the recorded policy is FREE (4.1). -/
def RotUnit.deciding (u : RotUnit) : Bool := !u.lock && u.policy == .free

/-- The tilt test, on squares (R68). -/
def tiltPasses (rotMin : Nat) (v : Vec3) : Bool := rotMin ^ 2 ≤ (v.x ^ 2 + v.y ^ 2).toNat

/-- Whether a state other than the current one qualifies at rotation angle `rho` with hysteresis `hyst` (R69). -/
def qualifies (current : Rot) (rho hyst : Nat) (k : Rot) : Bool := k != current && circDist rho k.centre + hyst ≤ 720

/-- The candidate of a decision (R69): the one that qualifies, and of two the one whose centre lies 720 AU above the
angle. -/
def selectCandidate (current : Rot) (rho hyst : Nat) : Option Rot :=
  match [Rot.rot0, .rot90, .rot180, .rot270].filter (qualifies current rho hyst) with
  | [] => none
  | [k] => some k
  | ks => ks.find? fun k => k.centre == (rho + 720) % 5760

/-- The candidate cancelled, and the timer with it (4.1). -/
def RotUnit.cancel (u : RotUnit) : RotUnit := { u with candidate := none, timer := .cancelled }

/-- Acceptance of a rotation (R71). -/
def acceptRotation (k : Rot) (s : State) : State :=
  (s.setRot { s.rot.cancel with rot := k }).emits
    [.recordOffer (.rotation s.rot.rot k .dwell s.stamp), .rotationOccurrence]

/-- A new or replacing candidate: waits for ROT_DWELL, or is accepted at once under a dwell of 0 (R70). -/
def startCandidate (k : Rot) (s : State) : State :=
  if s.rot.rotDwell = 0 then acceptRotation k s
  else s.setRot { s.rot with candidate := some k, timer := s.timer s.rot.rotDwell }

/-- The decision's result acting on the unit's candidate (R70). -/
def applyDecision (found : Option Rot) (s : State) : State :=
  match found with
  | none => s.setRot s.rot.cancel
  | some k => if s.rot.candidate = some k then s else startCandidate k s

/-- A decision (R68 to R70). -/
def decideRotation (v : Vec3) (s : State) : State :=
  if tiltPasses s.rot.rotMin v then
    let rho := direction v.y v.x
    let s' := s.setRot { s.rot with angle := some rho }
    applyDecision (selectCandidate s'.rot.rot rho s'.rot.rotHyst) s'
  else s.setRot { s.rot.cancel with angle := none }

/-- LID_VECTOR_DELIVERY (R67, R68): a decision if the unit is deciding. -/
def execLidVectorDelivery (v : Vec3) (s : State) : Host.Outcome State Fault Refusal :=
  let s' := s.took (.lidVectorDelivery v)
  .next (if s'.rot.deciding then decideRotation v s' else s')

/-- NO_VECTOR (R74). -/
def execNoVector (s : State) : Host.Outcome State Fault Refusal :=
  let s' := s.took .noVector
  .next (s'.setRot { s'.rot.cancel with angle := none })

/-- A forced change to ROT_0 (R72). -/
def forceRotation (s : State) : State :=
  if s.rot.rot = .rot0 then s
  else (s.setRot { s.rot with rot := .rot0 }).offer (.rotation s.rot.rot .rot0 .forced s.stamp)

/-- POLICY_DELIVERY (R72). -/
def execPolicyDelivery (policy : Policy) (acceptance : Bool) (s : State) : Host.Outcome State Fault Refusal :=
  let s' := s.took (.policyDelivery policy acceptance)
  let recorded := { s'.rot with policy := policy }
  match policy with
  | .free => .next (s'.setRot recorded)
  | .hold => .next (s'.setRot recorded.cancel)
  | .forceRot0 =>
    .next (if acceptance then forceRotation (s'.setRot recorded.cancel) else s'.setRot recorded.cancel)

/-- ROTATION_DWELL_EXPIRY (R71). The expiry of a timer that has been cancelled, or restarted by a candidate that replaces
another, does not occur (R76, log 5). -/
def execRotationDwellExpiry (s : State) : Host.Outcome State Fault Refusal :=
  match s.rot.candidate with
  | some k => if s.rot.timer.due s.partTime then .next (acceptRotation k s) else .next s
  | none => .next s

/-- SET_ROTATION_LOCK (R73): 1 is on, 0 is off, and another argument is refused. -/
def execSetRotationLock (tag lock : Byte) (s : State) : Host.Outcome State Fault Refusal :=
  let c : Instr := .setRotationLock tag lock
  let s' := s.took c
  if lock = 1 then .next (answerOk c tag 0x09 (s'.setRot { s'.rot.cancel with lock := true }))
  else if lock = 0 then .next (answerOk c tag 0x09 (s'.setRot { s'.rot with lock := false }))
  else .next (answerStatus c tag 0x09 .badRequest s')

end Sys2Proof.Machine
end

