-- ==== Sys2Proof/Machine/Upstream.lean ====
section
/-! DEFINITION. The upstream forwarding engine (chapter 10, R155 to R169). -/

namespace Sys2Proof.Machine

/-! ### Gap counts and losses (R164, R165) -/

/-- The gap count of a stream. -/
def Ufe.gap (u : Ufe) (st : Stream) : Nat := u.gaps.getD st.id 0

/-- The gap count of a stream set. -/
def Ufe.setGap (u : Ufe) (st : Stream) (n : Nat) : Ufe := { u with gaps := u.gaps.set st.id n }

/-- One more frame of a stream is lost (R164). -/
def countGap (st : Stream) (s : State) : State := s.setUfe (s.ufe.setGap st (satAdd 255 (s.ufe.gap st) 1))

/-- The TAG in a RESPONSE's payload. -/
def Frame.tag (f : Frame) : Byte := f.payload.getD 0 0

/-- A frame is dropped at admission or evicted: its gap count increases, and the loss of a RESPONSE is reported to the
HLM, which records its TAG. The loss of the final RESPONSE waits for an idle transmitter (R164, R165, R176). -/
def lose (f : Frame) (s : State) : State :=
  let s' := countGap f.stream s
  if f.stream = .response then
    if f.final then s'.setUfe { s'.ufe with finalLost := some f.tag }
    else s'.setHlm { s'.hlm with lastLost := some f.tag }
  else s'

/-- The loss report of the final RESPONSE, made when the transmitter is idle, carries out the reset (R165, R181). -/
def settleLoss (s : State) : State :=
  match s.ufe.finalLost, s.ufe.sending with
  | some tag, none => softResetCarriedOut (s.setHlm { s.hlm with lastLost := some tag })
  | _, _ => s

/-! ### Transmission (R165) -/

/-- The oldest queued frame of a class. -/
def oldest (c : FrameClass) (q : List Frame) : Option Frame := q.find? fun f => f.cls == c

/-- The queue without its oldest frame of a class. -/
def withoutOldest (c : FrameClass) (q : List Frame) : List Frame := q.eraseP fun f => f.cls == c

/-- The class whose oldest frame is sent next: HIGH, then NORMAL, then LOW. -/
def nextClass (q : List Frame) : FrameClass :=
  if (oldest .high q).isSome then .high else if (oldest .normal q).isSome then .normal else .low

/-- A frame's transmission begins: it leaves the queue with its stream's gap count, which becomes 0. -/
def beginFrame (c : FrameClass) (f : Frame) (s : State) : State :=
  let u := { s.ufe with
    queue := withoutOldest c s.ufe.queue
    sending := some { frame := f, gap := s.ufe.gap f.stream } }
  s.setUfe (u.setGap f.stream 0)

/-- The transmitter begins a frame if it is idle, HOLD is clear and the queue is not empty; after the loss of the final
RESPONSE it begins none (R165). -/
def tryBegin (s : State) : State :=
  if s.ufe.sending.isNone ∧ s.ufe.hold = false ∧ s.ufe.finalLost.isNone then
    match oldest (nextClass s.ufe.queue) s.ufe.queue with
    | some f => beginFrame (nextClass s.ufe.queue) f s
    | none => s
  else s

/-! ### Admission (R163) -/

/-- The number of queued frames of classes NORMAL and LOW together. -/
def Ufe.lowerCount (u : Ufe) : Nat := classCount .normal u.queue + classCount .low u.queue

/-- A frame joins the queue at its tail, and the transmitter is tested. -/
def enqueue (f : Frame) (s : State) : State := tryBegin (s.setUfe { s.ufe with queue := s.ufe.queue ++ [f] })

/-- The oldest frame of a class is evicted. -/
def evict (c : FrameClass) (f : Frame) (s : State) : State :=
  lose f (s.setUfe { s.ufe with queue := withoutOldest c s.ufe.queue })

/-- Admission of a frame by its class (R163). -/
def admitFrame (f : Frame) (s : State) : State :=
  let room := s.ufe.queue.length < 48 ∧ s.ufe.lowerCount < 40
  match f.cls with
  | .high =>
    if s.ufe.queue.length < 48 then enqueue f s
    else
      match oldest .low s.ufe.queue, oldest .normal s.ufe.queue with
      | some g, _ => enqueue f (evict .low g s)
      | none, some g => enqueue f (evict .normal g s)
      | none, none => lose f s
  | .normal =>
    if room then enqueue f s
    else
      match oldest .low s.ufe.queue with
      | some g => enqueue f (evict .low g s)
      | none => lose f s
  | .low => if room then enqueue f s else lose f s

/-- Whether the HLM marked the record as the final RESPONSE (R155). -/
def Record.final : Record → Bool
  | .response _ _ _ _ _ final => final
  | _ => false

/-- The frame made from one record, with the bytes its action appends (10.3.1, 11.7.1). -/
def frameOf (r : Record) (extra : List Byte) (cls : FrameClass) (s : State) : Frame :=
  { stream := r.stream, batch := false, cls := cls, payload := r.payload ++ extra, time := s.partTime
    final := r.final }

/-! ### Routing (R156 to R160) -/

/-- The column of an entry. -/
def RouteEntry.column (e : RouteEntry) : Platform → RouteColumn
  | .awake => e.awake
  | .asleep => e.asleep

/-- The entry of stream `i` in a bank; an index beyond the bank reads as PASS, HIGH in both columns. -/
def entryAt (bank : List RouteEntry) (i : Nat) : RouteEntry :=
  bank.getD i { awake := col .pass .high, asleep := col .pass .high }

/-- The forwarding state of stream `i`; an index beyond 11 reads as the reset value. -/
def Ufe.fwdAt (u : Ufe) (i : Nat) : Forwarding := u.fwd.getD i forwardingReset

/-- The forwarding state of stream `i` replaced. -/
def setFwd (i : Nat) (f : Forwarding) (s : State) : State := s.setUfe { s.ufe with fwd := s.ufe.fwd.set i f }

/-- DECIMATE (R158). -/
def decimate (i n : Nat) (cls : FrameClass) (r : Record) (s : State) : State :=
  let w := s.ufe.fwdAt i
  let s' := setFwd i { w with counter := if n ≤ w.counter + 1 then 0 else w.counter + 1 } s
  if w.counter = 0 then admitFrame (frameOf r [] cls s') s' else s'

/-- A record's numeric value fields under CHANGE_ONLY (R159). -/
def Record.numbers : Record → List Int
  | .lidSample v _ => [v.x, v.y, v.z]
  | .baseSample v _ => [v.x, v.y, v.z]
  | .hinge (some h) _ _ _ => [h]
  | .dockStatus draw _ _ _ => [draw]
  | .chargeTelemetry _ _ duty current ceiling _ => [duty, current, ceiling]
  | _ => []

/-- A record's other value fields under CHANGE_ONLY, coded as numbers (R159): quality and whether the hinge is
UNKNOWN; identity and fault bits; charger state with its target or kind, stage index and row kind. -/
def Record.others : Record → List Nat
  | .hinge reported quality _ _ => [quality.code, if reported.isSome then 1 else 0]
  | .dockStatus _ identity faultBits _ => [identity.toNat, faultBits.toNat]
  | .chargeTelemetry state rowKind _ _ _ _ =>
    [state.code, state.stage.getD 15, (rowKind.map StageKind.code).getD 255]
  | _ => []

/-- Whether some numeric field of two lists differs by at least the deadband, as a plain magnitude. -/
def anyMoved (deadband : Nat) : List Int → List Int → Bool
  | a :: as, b :: bs => deadband ≤ (a - b).natAbs || anyMoved deadband as bs
  | _, _ => false

/-- Whether a record is changed against the last forwarded one (R159). With a deadband of 0 every record is. -/
def isChanged (deadband : Nat) (last : Option Record) (r : Record) : Bool :=
  match last with
  | none => true
  | some l => deadband = 0 || anyMoved deadband r.numbers l.numbers || r.others != l.others

/-- CHANGE_ONLY (R159). -/
def changeOnly (i deadband maxHold : Nat) (cls : FrameClass) (r : Record) (s : State) : State :=
  let w := s.ufe.fwdAt i
  if isChanged deadband w.last r ∨ maxHold ≤ w.suppressed then
    let s' := setFwd i { w with last := some r, suppressed := 0 } s
    admitFrame (frameOf r [byteOf w.suppressed] cls s') s'
  else setFwd i { w with suppressed := w.suppressed + 1 } s

/-- The batch frame of accumulated records (R160, 11.7.1). -/
def batchFrame (st : Stream) (rs : List Record) (cls : FrameClass) (s : State) : Frame :=
  { stream := st, batch := true, cls := cls, payload := batchPayload rs, time := s.partTime, final := false }

/-- A stream's batch is queued: the timer is cancelled, the frame admitted and the accumulator emptied (R160). -/
def queueBatch (st : Stream) (cls : FrameClass) (s : State) : State :=
  let w := s.ufe.fwdAt st.id
  let s' := setFwd st.id { w with acc := [], flush := .cancelled } s
  admitFrame (batchFrame st w.acc cls s') s'

/-- BATCH (R160). -/
def batch (st : Stream) (block flush : Nat) (cls : FrameClass) (r : Record) (s : State) : State :=
  let w := s.ufe.fwdAt st.id
  let s' := setFwd st.id { w with
    acc := w.acc ++ [r], flush := if w.acc = [] then s.timer flush else w.flush } s
  if block ≤ w.acc.length + 1 then queueBatch st cls s' else s'

/-- A routed record, by the action of a column (R156). -/
def routeBy (c : RouteColumn) (r : Record) (s : State) : State :=
  match c.action with
  | .pass => admitFrame (frameOf r [] c.cls s) s
  | .drop => countGap r.stream s
  | .decimate n => decimate r.stream.id n c.cls r s
  | .changeOnly d m => changeOnly r.stream.id d m c.cls r s
  | .batch b f => batch r.stream b f c.cls r s

/-- Whether an offer bypasses the route table: streams 12 to 14 and the synthetic releases (R155). -/
def Record.bypasses : Record → Bool
  | .key synthetic _ _ _ => synthetic
  | .pointer synthetic _ _ _ _ _ => synthetic
  | .sleep _ _ => true
  | .response _ _ _ _ _ _ => true
  | .fault _ _ => true
  | _ => false

/-- The column in force of a stream's active entry. -/
def Ufe.columnOf (u : Ufe) (st : Stream) : RouteColumn := (entryAt u.active st.id).column u.column

/-- An offered record goes to admission at class HIGH, or is routed (R155, R156). -/
def takeOffer (r : Record) (s : State) : State :=
  if r.bypasses then admitFrame (frameOf r [] .high s) s else routeBy (s.ufe.columnOf r.stream) r s

/-- RECORD_OFFER (R155, R156). -/
def execRecordOffer (record : Record) (s : State) : Host.Outcome State Fault Refusal :=
  .next (settleLoss (takeOffer record (s.took (.recordOffer record))))

/-- FLUSH_TIMER_EXPIRY (R160): the records so far are queued under the class of the column in force. A timer that is not
due has no expiry (R167, log 5). -/
def execFlushTimerExpiry (stream : Stream) (s : State) : Host.Outcome State Fault Refusal :=
  if (s.ufe.fwdAt stream.id).flush.due s.partTime then
    .next (settleLoss (queueBatch stream (s.ufe.columnOf stream).cls s))
  else .next s

/-! ### Column change and commit (R161, R162) -/

/-- The streams with a route entry, in stream id order. -/
def routedStreams : List Stream :=
  [.lidSample, .baseSample, .hinge, .rotation, .posture, .key, .pointer, .dockStatus, .dockEvent, .penEvent,
   .chargeTelemetry, .lineEvent]

/-- A stream's batch is queued, under its active column in force, if its accumulator holds records. -/
def flushStream (s : State) (st : Stream) : State :=
  if (s.ufe.fwdAt st.id).acc = [] then s else queueBatch st (s.ufe.columnOf st).cls s

/-- The decimation counter and the change-only state reset (R158, R159). -/
def Forwarding.thinReset (w : Forwarding) : Forwarding := { w with counter := 0, last := none, suppressed := 0 }

/-- The thinning state of a stream reset. -/
def resetThinning (s : State) (st : Stream) : State := setFwd st.id (s.ufe.fwdAt st.id).thinReset s

/-- A change to the other column (R161). -/
def changeColumn (p : Platform) (s : State) : State :=
  let s1 := routedStreams.foldl flushStream s
  let s2 := s1.setUfe { s1.ufe with column := p }
  let differs := routedStreams.filter fun st =>
    (entryAt s2.ufe.active st.id).awake != (entryAt s2.ufe.active st.id).asleep
  differs.foldl resetThinning s2

/-- COLUMN_CHANGE (R161): a delivery of the column in force changes nothing. -/
def execColumnChange (platform : Platform) (s : State) : Host.Outcome State Fault Refusal :=
  let s' := s.took (.columnChange platform)
  if s'.ufe.column = platform then .next s' else .next (settleLoss (changeColumn platform s'))

/-- The streams whose entries differ between the pending bank and the active bank (R162 step 1). -/
def changedStreams (u : Ufe) : List Stream :=
  routedStreams.filter fun st => entryAt u.pending st.id != entryAt u.active st.id

/-- The three steps of a commit (R162). DESIGN CHOICE (log 36): the batches of several changed entries are queued in stream id
order, as R161 has it for a change of column; R162 gives no order. -/
def commitRoutes (s : State) : State :=
  let differs := changedStreams s.ufe
  let s1 := differs.foldl flushStream s
  let s2 := s1.setUfe { s1.ufe with active := s1.ufe.pending }
  differs.foldl resetThinning s2

/-- COMMIT_ROUTE (R162): taken in any state, and answered OK after its steps. -/
def execCommitRoute (tag : Byte) (s : State) : Host.Outcome State Fault Refusal :=
  let c : Instr := .commitRoute tag
  .next (answerOk c tag 0x07 (settleLoss (commitRoutes (s.took c))))

/-- WRITE_ROWS_ROUTE (R157): the entries go to the pending bank. -/
def execWriteRowsRoute (tag start count : Byte) (rows : List Byte) (s : State) :
    Host.Outcome State Fault Refusal :=
  let c : Instr := .writeRowsRoute tag start count rows
  .next (answerRows c tag (checkRows readRouteEntry 16 12 start count rows)
    (fun rs s => s.setUfe { s.ufe with pending := replaceRows s.ufe.pending start.toNat rs }) (s.took c))

/-! ### Completion and HOLD (R165, R166) -/

/-- FRAME_COMPLETION (R165): after the final RESPONSE, or with its loss waiting, the reset is carried out; otherwise the
next frame may begin. With no frame in transmission nothing completes (log 5). -/
def execFrameCompletion (s : State) : Host.Outcome State Fault Refusal :=
  match s.ufe.sending with
  | none => .next s
  | some t =>
    let s' := s.setUfe { s.ufe with sending := none }
    if t.frame.final then .next (softResetCarriedOut s') else .next (tryBegin (settleLoss s'))

/-- HOLD_CHANGE (R166): the level is recorded, and a release may begin a frame. -/
def execHoldChange (asserted : Bool) (s : State) : Host.Outcome State Fault Refusal :=
  .next (tryBegin (s.setUfe { s.ufe with hold := asserted }))

end Sys2Proof.Machine
end

