-- ==== Sys2Proof/Machine/Dispatch.lean ====
section
/-! DEFINITION. The dispatch of a command to its meaning, one arm per constructor. -/

namespace Sys2Proof.Machine

def exec (i : Instr) (s : State) : Host.Outcome State Fault Refusal :=
  match i with
  | .powerOnReset rateSel hold => Sys2Proof.Machine.execPowerOnReset rateSel hold s
  | .lifSample frontHall rearHall dockContact penContact => Sys2Proof.Machine.execLifSample frontHall rearHall dockContact penContact s
  | .sampleTimerExpiry => Sys2Proof.Machine.execSampleTimerExpiry s
  | .readCompletion identity newData x y z => Sys2Proof.Machine.execReadCompletion identity newData x y z s
  | .portOff tag port => Sys2Proof.Machine.execPortOff tag port s
  | .restartPortLid tag => Sys2Proof.Machine.execRestartPortLid tag s
  | .pollTimerExpiry => Sys2Proof.Machine.execPollTimerExpiry s
  | .answerTimeout => Sys2Proof.Machine.execAnswerTimeout s
  | .answerCutoff => Sys2Proof.Machine.execAnswerCutoff s
  | .answerEnd bytes => Sys2Proof.Machine.execAnswerEnd bytes s
  | .dockContactEvent asserted time => Sys2Proof.Machine.execDockContactEvent asserted s time
  | .al0LevelDelivery on => Sys2Proof.Machine.execAl0LevelDelivery on s
  | .attachTimerExpiry => Sys2Proof.Machine.execAttachTimerExpiry s
  | .gateDelivery which value => Sys2Proof.Machine.execGateDelivery which value s
  | .dockItemHandover item => Sys2Proof.Machine.execDockItemHandover item s
  | .restartPortDock tag => Sys2Proof.Machine.execRestartPortDock tag s
  | .clearDockError tag => Sys2Proof.Machine.execClearDockError tag s
  | .computation sample => Sys2Proof.Machine.execComputation sample s
  | .lidFilterClear => Sys2Proof.Machine.execLidFilterClear s
  | .baseInvalidation => Sys2Proof.Machine.execBaseInvalidation s
  | .portStateDelivery state => Sys2Proof.Machine.execPortStateDelivery state s
  | .haeDockStateDelivery state => Sys2Proof.Machine.execHaeDockStateDelivery state s
  | .freshnessTimerExpiry sensor => Sys2Proof.Machine.execFreshnessTimerExpiry sensor s
  | .haeHallEvent hall asserted time => Sys2Proof.Machine.execHaeHallEvent hall asserted s time
  | .lidVectorDelivery v => Sys2Proof.Machine.execLidVectorDelivery v s
  | .noVector => Sys2Proof.Machine.execNoVector s
  | .policyDelivery policy acceptance => Sys2Proof.Machine.execPolicyDelivery policy acceptance s
  | .rotationDwellExpiry => Sys2Proof.Machine.execRotationDwellExpiry s
  | .setRotationLock tag lock => Sys2Proof.Machine.execSetRotationLock tag lock s
  | .hingeDelivery hinge quality face => Sys2Proof.Machine.execHingeDelivery hinge quality face s
  | .pclDockStateDelivery state => Sys2Proof.Machine.execPclDockStateDelivery state s
  | .pclHallEvent hall asserted time => Sys2Proof.Machine.execPclHallEvent hall asserted s time
  | .postureDwellExpiry => Sys2Proof.Machine.execPostureDwellExpiry s
  | .commitPosture tag => Sys2Proof.Machine.execCommitPosture tag s
  | .clearNoMatch tag => Sys2Proof.Machine.execClearNoMatch tag s
  | .triggerDelivery trigger => Sys2Proof.Machine.execTriggerDelivery trigger s
  | .setLine tag line level => Sys2Proof.Machine.execSetLine tag line level s
  | .drawDelivery draw => Sys2Proof.Machine.execDrawDelivery draw s
  | .allowanceDelivery allowance => Sys2Proof.Machine.execAllowanceDelivery allowance s
  | .penInsertion time => Sys2Proof.Machine.execPenInsertion s time
  | .penRemoval time => Sys2Proof.Machine.execPenRemoval s time
  | .ssuResultDelivery allowance dutyCeiling budgetPause => Sys2Proof.Machine.execSsuResultDelivery allowance dutyCeiling budgetPause s
  | .intervalEnd current => Sys2Proof.Machine.execIntervalEnd current s
  | .rechargeTimerExpiry => Sys2Proof.Machine.execRechargeTimerExpiry s
  | .clearCharger tag => Sys2Proof.Machine.execClearCharger tag s
  | .commitProfile tag => Sys2Proof.Machine.execCommitProfile tag s
  | .keyOccurrence => Sys2Proof.Machine.execKeyOccurrence s
  | .pointerOccurrence => Sys2Proof.Machine.execPointerOccurrence s
  | .dockAttach => Sys2Proof.Machine.execDockAttach s
  | .dockDetach => Sys2Proof.Machine.execDockDetach s
  | .acceptanceNotice old new => Sys2Proof.Machine.execAcceptanceNotice old new s
  | .sleepClassChange cls => Sys2Proof.Machine.execSleepClassChange cls s
  | .rotationOccurrence => Sys2Proof.Machine.execRotationOccurrence s
  | .penInsertedOccurrence => Sys2Proof.Machine.execPenInsertedOccurrence s
  | .penRemovedOccurrence => Sys2Proof.Machine.execPenRemovedOccurrence s
  | .lidMotionOccurrence isActivity => Sys2Proof.Machine.execLidMotionOccurrence isActivity s
  | .idleTimerExpiry => Sys2Proof.Machine.execIdleTimerExpiry s
  | .closedHoldExpiry => Sys2Proof.Machine.execClosedHoldExpiry s
  | .setPlatformStateAsleep tag => Sys2Proof.Machine.execSetPlatformStateAsleep tag s
  | .setPlatformStateAwake tag => Sys2Proof.Machine.execSetPlatformStateAwake tag s
  | .recordOffer record => Sys2Proof.Machine.execRecordOffer record s
  | .flushTimerExpiry stream => Sys2Proof.Machine.execFlushTimerExpiry stream s
  | .columnChange platform => Sys2Proof.Machine.execColumnChange platform s
  | .commitRoute tag => Sys2Proof.Machine.execCommitRoute tag s
  | .frameCompletion => Sys2Proof.Machine.execFrameCompletion s
  | .holdChange asserted => Sys2Proof.Machine.execHoldChange asserted s
  | .byteReceived byte stopBit => Sys2Proof.Machine.execByteReceived byte s stopBit
  | .gapTimerExpiry => Sys2Proof.Machine.execGapTimerExpiry s
  | .dockRoomNotice => Sys2Proof.Machine.execDockRoomNotice s
  | .requestUnknownCode tag payload => Sys2Proof.Machine.execRequestUnknownCode tag payload s
  | .identify tag => Sys2Proof.Machine.execIdentify tag s
  | .getStatus tag sect => Sys2Proof.Machine.execGetStatus tag sect s
  | .setParam tag id value => Sys2Proof.Machine.execSetParam tag id value s
  | .getParam tag id => Sys2Proof.Machine.execGetParam tag id s
  | .writeRowsMountLid tag start count rows => Sys2Proof.Machine.execWriteRowsMountLid tag start count rows s
  | .writeRowsMountBase tag start count rows => Sys2Proof.Machine.execWriteRowsMountBase tag start count rows s
  | .writeRowsPosture tag start count rows => Sys2Proof.Machine.execWriteRowsPosture tag start count rows s
  | .writeRowsRoute tag start count rows => Sys2Proof.Machine.execWriteRowsRoute tag start count rows s
  | .writeRowsProfile tag start count rows => Sys2Proof.Machine.execWriteRowsProfile tag start count rows s
  | .writeRowsAction tag start count rows => Sys2Proof.Machine.execWriteRowsAction tag start count rows s
  | .readRows tag table bank start count => Sys2Proof.Machine.execReadRows tag table bank start count s
  | .clearLinkErrors tag => Sys2Proof.Machine.execClearLinkErrors tag s
  | .softReset tag => Sys2Proof.Machine.execSoftReset tag s
  | .answerBegin => Sys2Proof.Machine.execAnswerBegin s

end Sys2Proof.Machine
end

