-- ==== Sys2Proof/Machine/Step.lean ====
section
/-! DEFINITION. One step of the part, and placing a command in front of the queue. -/

namespace Sys2Proof.Machine

/-- One step: the command in front of the queue is taken. On an empty queue the oldest delivery in flight is taken by
its receiver, and with none in flight the part idles (log 2). -/
def step (s : State) : Host.Outcome State Fault Refusal :=
  match s.pending with
  | c :: rest => exec c { s with pending := rest }
  | [] =>
    match s.inflight with
    | c :: _ => exec c s
    | [] => .next s

/-- The state with the command that a word spells put in front of the queue. -/
def State.withFetchWord (s : State) (nbits w : Nat) : State :=
  match decodeTableWord nbits w with
  | some c => { s with pending := c :: s.pending }
  | none => s

end Sys2Proof.Machine
end

