-- ==== Sys2Proof/WellFormed.lean ====
section
/-! DEFINITION. The commands whose operands lie in the ranges the chapters give them. A meaning is defined on every
command; these checks say which ones the part's own blocks, its pins and its host can bring about. -/

namespace Sys2Proof.Machine

/-- A sample value: a signed 16-bit count (0.5). -/
def inSample (v : Int) : Bool := -32768 ≤ v && v ≤ 32767

/-- The three axes of a vector in the sample range (0.5, R14, R44). -/
def Vec3.wf (v : Vec3) : Bool := inSample v.x && inSample v.y && inSample v.z

/-- A reported hinge in 0..5760, or UNKNOWN (3.2). -/
def hingeWf (h : Option Nat) : Bool := h.all fun a => a ≤ 5760

/-- A stage index 0..5 where the charger state has one (8.1). -/
def ChargerState.wf (st : ChargerState) : Bool := st.reportedStage.all fun k => k < 6

/-- A record's fields in the ranges of its chapter. -/
def Record.wf : Record → Bool
  | .lidSample v _ => v.wf
  | .baseSample v _ => v.wf
  | .hinge reported _ raw _ => hingeWf reported && raw.all fun r => r < 5760
  | .rotation _ _ _ _ => true
  | .posture _ _ row h _ _ => row < 16 && hingeWf h
  | .key _ _ codes _ => codes.length ≤ 6
  | .pointer _ _ _ _ _ _ => true
  | .dockStatus draw _ _ _ => draw ≤ 1000
  | .dockEvent _ _ undelivered _ => undelivered ≤ 255
  | .penEvent _ state _ => state.wf
  | .chargeTelemetry state _ duty current ceiling _ =>
    state.wf && duty ≤ 1023 && current ≤ 2047 && ceiling ≤ 1023
  | .lineEvent _ _ _ => true
  | .sleep _ _ => true
  | .response _ _ _ _ data _ => data.length ≤ 56
  | .fault (.charger _ stage current) _ => (stage.all fun k => k < 6) && current ≤ 2047
  | .fault _ _ => true

/-- An answer as it ends on the wire: four bytes, the declared length, and CHECK (R19, 11.7.7). -/
def answerWf (bytes : List Byte) : Bool :=
  bytes.head? == some 0x5A && bytes[2]?.any fun declared => bytes.length == declared.toNat + 4

/-- The streams whose columns may hold BATCH, which alone have a flush timer that can run (10.2.1). -/
def Stream.batches (st : Stream) : Bool := [Stream.lidSample, .baseSample, .chargeTelemetry].contains st

/-- A command with its operands in range. The bytes of a WRITE_ROWS are what a payload of 60 leaves behind its code,
table, start and count. -/
def wf : Instr → Bool
  | .answerEnd bytes => answerWf bytes
  | .dockItemHandover item => item.length ≤ 16
  | .computation sample => sample.v.wf
  | .lidVectorDelivery v => v.wf
  | .hingeDelivery h _ _ => hingeWf h
  | .drawDelivery draw => draw ≤ 1000
  | .ssuResultDelivery _ ceiling _ => ceiling ≤ 1023
  | .intervalEnd current => current ≤ 2047
  | .recordOffer record => record.wf
  | .flushTimerExpiry stream => stream.batches
  | .requestUnknownCode tag payload =>
    payload.length ≤ 60 && requestCommand tag payload == .requestUnknownCode tag payload
  | .writeRowsMountLid _ _ _ rows => rows.length ≤ 56
  | .writeRowsMountBase _ _ _ rows => rows.length ≤ 56
  | .writeRowsPosture _ _ _ rows => rows.length ≤ 56
  | .writeRowsRoute _ _ _ rows => rows.length ≤ 56
  | .writeRowsProfile _ _ _ rows => rows.length ≤ 56
  | .writeRowsAction _ _ _ rows => rows.length ≤ 56
  | .powerOnReset _ _ | .lifSample _ _ _ _ | .sampleTimerExpiry | .readCompletion _ _ _ _ _ | .portOff _ _
  | .restartPortLid _ | .pollTimerExpiry | .answerTimeout | .answerCutoff | .dockContactEvent _ _
  | .al0LevelDelivery _ | .attachTimerExpiry | .gateDelivery _ _ | .restartPortDock _ | .clearDockError _
  | .lidFilterClear | .baseInvalidation | .portStateDelivery _ | .haeDockStateDelivery _
  | .freshnessTimerExpiry _ | .haeHallEvent _ _ _ | .noVector | .policyDelivery _ _ | .rotationDwellExpiry
  | .setRotationLock _ _ | .pclDockStateDelivery _ | .pclHallEvent _ _ _ | .postureDwellExpiry
  | .commitPosture _ | .clearNoMatch _ | .triggerDelivery _ | .setLine _ _ _ | .allowanceDelivery _
  | .penInsertion _ | .penRemoval _ | .rechargeTimerExpiry | .clearCharger _ | .commitProfile _ | .keyOccurrence
  | .pointerOccurrence | .dockAttach | .dockDetach | .acceptanceNotice _ _ | .sleepClassChange _
  | .rotationOccurrence | .penInsertedOccurrence | .penRemovedOccurrence | .lidMotionOccurrence _
  | .idleTimerExpiry | .closedHoldExpiry | .setPlatformStateAsleep _ | .setPlatformStateAwake _
  | .columnChange _ | .commitRoute _ | .frameCompletion | .holdChange _ | .byteReceived _ _ | .gapTimerExpiry
  | .dockRoomNotice | .identify _ | .getStatus _ _ | .setParam _ _ _ | .getParam _ _ | .readRows _ _ _ _ _
  | .clearLinkErrors _ | .softReset _ | .answerBegin => true

end Sys2Proof.Machine
end

