-- ==== Sys2Proof/Safety.lean ====
section
/-! DEFINITION. When a command can come about. A meaning is defined in every state; the part's timers, pins, wires and
blocks bring a command about only in the states described here. A statement about what the part can do over time takes
these as premises (log 2, 4 and 5). -/

namespace Sys2Proof.Machine

/-! ### Senders and receivers of deliveries -/

/-- The twelve blocks (0.4). -/
inductive Block where
  | lif | lsp | dlc | hae | rot | pcl | alu | ssu | pch | swa | ufe | hlm
  deriving DecidableEq, Repr

/-- The producer of a record (10.1). -/
def Record.producer : Record → Block
  | .lidSample _ _ => .lsp
  | .baseSample _ _ => .dlc
  | .hinge _ _ _ _ => .hae
  | .rotation _ _ _ _ => .rot
  | .posture _ _ _ _ _ _ => .pcl
  | .key _ _ _ _ => .dlc
  | .pointer _ _ _ _ _ _ => .dlc
  | .dockStatus _ _ _ _ => .dlc
  | .dockEvent _ _ _ _ => .dlc
  | .penEvent _ _ _ => .pch
  | .chargeTelemetry _ _ _ _ _ _ => .pch
  | .lineEvent _ _ _ => .lif
  | .sleep _ _ => .swa
  | .response _ _ _ _ _ _ => .hlm
  | .fault .lidPortStalled _ => .lsp
  | .fault (.charger _ _ _) _ => .pch
  | .fault (.downstreamOverrun _ _) _ => .hlm

/-- The sender of a trigger (R103). -/
def Trigger.sender : Trigger → Block
  | .postureLeave _ => .pcl
  | .postureEnter _ => .pcl
  | .platformAsleep => .swa
  | .platformAwake => .swa
  | .dockAttached => .dlc
  | .dockAbsent => .dlc
  | .penInserted => .pch
  | .chargerFault => .pch

/-- The sender and the receiver of a delivery between blocks; none for a command that is no delivery. -/
def channel : Instr → Option (Block × Block)
  | .dockContactEvent _ _ => some (.lif, .dlc)
  | .haeHallEvent _ _ _ => some (.lif, .hae)
  | .pclHallEvent _ _ _ => some (.lif, .pcl)
  | .penInsertion _ => some (.lif, .pch)
  | .penRemoval _ => some (.lif, .pch)
  | .al0LevelDelivery _ => some (.alu, .dlc)
  | .gateDelivery _ _ => some (.pcl, .dlc)
  | .dockItemHandover _ => some (.hlm, .dlc)
  | .computation p => some (match p.sensor with | .lid => .lsp | .base => .dlc, .hae)
  | .lidFilterClear => some (.lsp, .hae)
  | .baseInvalidation => some (.dlc, .hae)
  | .portStateDelivery _ => some (.lsp, .hae)
  | .haeDockStateDelivery _ => some (.dlc, .hae)
  | .lidVectorDelivery _ => some (.hae, .rot)
  | .noVector => some (.hae, .rot)
  | .policyDelivery _ _ => some (.pcl, .rot)
  | .hingeDelivery _ _ _ => some (.hae, .pcl)
  | .pclDockStateDelivery _ => some (.dlc, .pcl)
  | .triggerDelivery t => some (t.sender, .alu)
  | .drawDelivery _ => some (.dlc, .ssu)
  | .allowanceDelivery _ => some (.pcl, .ssu)
  | .ssuResultDelivery _ _ _ => some (.ssu, .pch)
  | .keyOccurrence => some (.dlc, .swa)
  | .pointerOccurrence => some (.dlc, .swa)
  | .dockAttach => some (.dlc, .swa)
  | .dockDetach => some (.dlc, .swa)
  | .acceptanceNotice _ _ => some (.pcl, .swa)
  | .sleepClassChange _ => some (.pcl, .swa)
  | .rotationOccurrence => some (.rot, .swa)
  | .penInsertedOccurrence => some (.pch, .swa)
  | .penRemovedOccurrence => some (.pch, .swa)
  | .lidMotionOccurrence _ => some (.hae, .swa)
  | .recordOffer r => some (r.producer, .ufe)
  | .columnChange _ => some (.swa, .ufe)
  | .dockRoomNotice => some (.dlc, .hlm)
  | _ => none

/-- Whether delivery `c` may be taken before the older delivery `d` between the same two blocks: two line events of the same
sample, for two different lines, carry no order between them at a consumer that receives both (R2). All others keep the
order they were issued in. -/
def mayPass (c d : Instr) : Bool :=
  match c, d with
  | .haeHallEvent hall _ t, .haeHallEvent hall' _ t' => hall != hall' && t == t'
  | .pclHallEvent hall _ t, .pclHallEvent hall' _ t' => hall != hall' && t == t'
  | .recordOffer (.lineEvent line _ ts), .recordOffer (.lineEvent line' _ ts') => line != line' && ts == ts'
  | _, _ => false

/-- Whether the RESPONSE to a request of this code reaches the UFE after an older record of the request's owner: the FAULT of
a stalled lid port, before the answer to its restart (R12), and what the owner's own rule offers, the WAKE record of
SET_PLATFORM_STATE (R148), the POSTURE record of a COMMIT and the DOCK_EVENT of RESTART_PORT (R180). DESIGN CHOICE (log 37):
R180 has such a record offered first, while R155 gives offers of different producers no order; the model keeps the order of
the offers for these records, and leaves a RESPONSE unordered with all other records of other producers. -/
def precedesAnswer (code : Byte) (r : Record) : Bool :=
  match code.toNat, r with
  | 0x07, .posture _ _ _ _ _ _ => true
  | 0x08, .sleep _ _ => true
  | 0x0C, .dockEvent _ _ _ _ => true
  | 0x0C, .fault .lidPortStalled _ => true
  | _, _ => false

/-- Whether delivery `c` stays behind the older delivery `d`: deliveries between the same two blocks keep their order, but
for `mayPass`, and a RESPONSE stays behind the records that precede it. -/
def staysBehind (c d : Instr) : Bool :=
  (channel d == channel c && !mayPass c d)
    || match c, d with
      | .recordOffer (.response _ code _ _ _ _), .recordOffer r => precedesAnswer code r
      | _, _ => false

/-- Whether delivery `c` can be the next one taken of those in flight: `c` is there, and no older delivery is one that it
stays behind. -/
def takeable (c : Instr) : List Instr → Bool
  | [] => false
  | d :: q => d == c || (!staysBehind c d && takeable c q)

/-! ### When a command can come about -/

/-- Whether the exchange in progress, if any, satisfies a test. -/
def State.exchanging (s : State) (test : Exchange → Bool) : Bool := s.dlc.exchange.any test

/-- Whether the parts outside the queue can bring the command about in this state: a delivery is in flight and
overtakes none that it may not; a timer that expires is due; a completion ends something begun; a request executes at the head. DESIGN CHOICE (log 40): a
request at the head may execute while deliveries of a request before it are still in flight (R105, R175). -/
def possible (c : Instr) (s : State) : Bool :=
  match channel c with
  | some _ => takeable c s.inflight
  | none =>
    match c with
    | .powerOnReset _ _ => true
    | .lifSample _ _ _ _ => true
    | .byteReceived _ _ => true
    | .intervalEnd _ => true
    | .answerBegin => true
    | .sampleTimerExpiry => s.lsp.timer.due s.partTime
    | .readCompletion _ _ _ _ _ => s.lsp.reading
    | .pollTimerExpiry => s.dlc.pollTimer.due s.partTime
    | .answerTimeout => s.exchanging fun e => !e.answering
    | .answerCutoff => s.dlc.stray || s.exchanging fun e => e.answering
    | .answerEnd _ => s.dlc.stray || s.exchanging fun e => e.answering
    | .attachTimerExpiry => s.dlc.attachTimer.due s.partTime
    | .freshnessTimerExpiry .lid => s.hae.lidTimer.due s.partTime
    | .freshnessTimerExpiry .base => s.hae.baseTimer.due s.partTime
    | .rotationDwellExpiry => s.rot.timer.due s.partTime
    | .postureDwellExpiry => s.pcl.timer.due s.partTime
    | .rechargeTimerExpiry => s.pch.rechargeTimer.due s.partTime
    | .idleTimerExpiry => s.swa.idleTimer.due s.partTime
    | .closedHoldExpiry => s.swa.holdTimer.due s.partTime
    | .flushTimerExpiry st => (s.ufe.fwdAt st.id).flush.due s.partTime
    | .gapTimerExpiry => s.hlm.gapTimer.due s.partTime
    | .frameCompletion => s.ufe.sending.isSome
    | .holdChange asserted => asserted != s.ufe.hold
    | _ => headIs c s

/-- A safe run takes only commands in range that can come about, each from the front of the queue. -/
def safeStep (s : State) : Bool :=
  match s.pending with
  | c :: rest => wf c && possible c { s with pending := rest }
  | [] => true

/-! ### The bounds the chapters give the state -/

/-- The upstream queue's two bounds (R163). -/
def upstreamBounded (s : State) : Prop := s.ufe.queue.length ≤ 48 ∧ s.ufe.lowerCount ≤ 40

/-- A final RESPONSE whose loss waits waits behind a frame in transmission, and a frame is queued only while the transmitter
is busy or HOLD is asserted (R165, R166). -/
def transmitterSettled (s : State) : Prop :=
  (s.ufe.finalLost ≠ none → s.ufe.sending ≠ none) ∧ (s.ufe.sending = none → s.ufe.hold = false → s.ufe.queue = [])

/-- A final RESPONSE is queued at class HIGH, which no eviction takes (R155, R163). -/
def finalsHigh (s : State) : Prop := ∀ f ∈ s.ufe.queue, f.final = true → f.cls = .high

/-- The downstream queue and the dock's queue hold no more than their slots (11.1, R31). -/
def downstreamBounded (s : State) : Prop := s.hlm.queue.length ≤ 8 ∧ s.dlc.queue.length ≤ 4

/-- Every queued dock item has been offered fewer than 8 times unconsumed (R32). -/
def offersBounded (s : State) : Prop := ∀ i ∈ s.dlc.queue, i.offers < 8

/-- Every table bank has its number of rows, and the UFE one gap count per stream and one forwarding state per entry. -/
def banksShaped (s : State) : Prop :=
  s.pcl.active.length = 16 ∧ s.pcl.pending.length = 16 ∧ s.ufe.active.length = 12 ∧ s.ufe.pending.length = 12
  ∧ s.pch.active.length = 6 ∧ s.pch.pending.length = 6 ∧ s.ufe.gaps.length = 15 ∧ s.ufe.fwd.length = 12

/-- Row 0 of both profile banks is in use (R133). -/
def firstStageInUse (s : State) : Prop :=
  (s.pch.active.head?.map ProfileRow.inUse = some true) ∧ (s.pch.pending.head?.map ProfileRow.inUse = some true)

/-- The tracked and the reported hinge lie in 0..5760, and the raw hinge in 0..5759 (3.2). -/
def hingeInRange (s : State) : Prop :=
  (∀ t ∈ s.hae.tracked, t ≤ 5760) ∧ (∀ r ∈ s.hae.reported, r ≤ 5760) ∧ (∀ r ∈ s.hae.raw, r < 5760)

/-- A dwell timer runs exactly while there is a candidate (4.1, 5.2). -/
def dwellsPaired (s : State) : Prop :=
  (s.rot.candidate.isSome ↔ s.rot.timer.isRunning) ∧ (s.pcl.candidate.isSome ↔ s.pcl.timer.isRunning)

/-- The coil is driven only in PROBE and CHARGING: elsewhere the staged and the applied duty are 0 (8.2, R121). -/
def coilQuiet (s : State) : Prop :=
  s.pch.state = .probe ∨ (∃ k, s.pch.state = .charging k) ∨ (s.pch.applied = 0 ∧ s.pch.staged = 0)

/-- The wake line and the reason set agree, and an ASLEEP platform has no standing advice (9.1). -/
def sleepConsistent (s : State) : Prop :=
  (s.swa.wakeRaised = true ↔ s.swa.wakeSet ≠ 0) ∧ (s.swa.platform = .asleep → s.swa.advice = none)

/-- BUSY_OFF lies below BUSY_ON in 2..8, and BUSY stands as the queue's length asks (R174). -/
def busyConsistent (s : State) : Prop :=
  s.hlm.busyOff < s.hlm.busyOn ∧ 2 ≤ s.hlm.busyOn ∧ s.hlm.busyOn ≤ 8
  ∧ (s.hlm.busyOn ≤ s.hlm.queue.length → s.hlm.busy = true)
  ∧ (s.hlm.queue.length ≤ s.hlm.busyOff → s.hlm.busy = false)

/-! ### What statements say of a step -/

/-- The blocks outside `touched` are as before, and so are part time, the free values and the queue. -/
def kept (touched : List Block) (s t : State) : Prop :=
  (.lif ∉ touched → t.lif = s.lif) ∧ (.lsp ∉ touched → t.lsp = s.lsp) ∧ (.dlc ∉ touched → t.dlc = s.dlc)
  ∧ (.hae ∉ touched → t.hae = s.hae) ∧ (.rot ∉ touched → t.rot = s.rot) ∧ (.pcl ∉ touched → t.pcl = s.pcl)
  ∧ (.alu ∉ touched → t.alu = s.alu) ∧ (.ssu ∉ touched → t.ssu = s.ssu) ∧ (.pch ∉ touched → t.pch = s.pch)
  ∧ (.swa ∉ touched → t.swa = s.swa) ∧ (.ufe ∉ touched → t.ufe = s.ufe) ∧ (.hlm ∉ touched → t.hlm = s.hlm)
  ∧ t.partTime = s.partTime ∧ t.freeCount = s.freeCount ∧ t.pending = s.pending

/-- Command `c` leaves flight, if it was in flight, and the deliveries `cs` are issued, in this order. -/
def issued (c : Instr) (cs : List Instr) (s t : State) : Prop := t.inflight = s.inflight.erase c ++ cs

/-- What follows when the frames `q` are left in an idle downstream queue: the head state, and the command that the new
head brings about (R175). -/
def nextHead (q : List DownFrame) : HeadState × List Instr :=
  match q with
  | [] => (.idle, [])
  | f :: _ =>
    match f.kind with
    | .request => (.executing, [f.command])
    | .dockItem => (.idle, [f.command])

/-- From `u`, the state its owner's rule leaves, request `c` is answered by one RESPONSE. If `c` executes at the head,
its frame leaves the queue, BUSY is released when no more than BUSY_OFF frames are left, and the next head is taken up,
whatever is still in flight (log 40). All else is as in `u` (R174 to R176). -/
def replied (c : Instr) (tag code : Byte) (status : Status) (row : Byte) (data : List Byte) (u t : State) : Prop :=
  let left := if headIs c u then u.hlm.queue.tail else u.hlm.queue
  let next := if headIs c u then nextHead left else (u.hlm.head, [])
  kept [.hlm] u t
  ∧ t.inflight = u.inflight ++ .recordOffer (.response tag code status row data false) :: next.2
  ∧ t.hlm = { u.hlm with
      queue := left, head := next.1
      busy := if headIs c u ∧ left.length ≤ u.hlm.busyOff then false else u.hlm.busy }

/-- Admitting a frame that is not final carries out no reset: a frame is in transmission, behind which a loss waits, or no
final RESPONSE is lost and none can be evicted (R163, R165). -/
def lossWaits (s : State) : Prop := s.ufe.sending ≠ none ∨ (s.ufe.finalLost = none ∧ finalsHigh s)

/-- The upstream state `u` after frame `f` is admitted with room for it: with the transmitter idle and HOLD clear it begins at
once, with its stream's gap count, which becomes 0, and otherwise it joins the tail of the queue (R163 to R165). -/
def Ufe.joined (u : Ufe) (f : Frame) : Ufe :=
  if u.sending = none ∧ u.hold = false then
    { u with sending := some ⟨f, u.gap f.stream⟩, gaps := u.gaps.set f.stream.id 0 }
  else { u with queue := u.queue ++ [f] }

/-- What a SOFT_RESET that is carried out leaves: the reset state, but for the link rate, the HOLD level and the receiver, whose
times are taken on the part time that restarts at 0 (log 16), and for dock activity still to be ignored (log 6). The free
values and the queue of commands are not the part's, and deliveries in flight are lost (log 15) (R41, R165, R168, R181). -/
def afterSoftReset (s : State) : State :=
  { State.reset with
    dlc := { State.reset.dlc with stray := s.dlc.stray || s.exchanging Exchange.answering }
    ufe := { State.reset.ufe with hold := s.ufe.hold }
    hlm := { State.reset.hlm with
      fastLink := s.hlm.fastLink
      rx := s.hlm.rx.map fun b => { b with time := b.time - s.partTime }
      gapTimer := match s.hlm.gapTimer with
        | .cancelled => .cancelled
        | .running expiry => .running (expiry - s.partTime) }
    freeCount := s.freeCount, pending := s.pending }

/-- What a failed offer leaves of the dock's queue: the head item's offer count goes up, and at 8 the item leaves (R32). -/
def afterUnconsumed (queue : List DockItem) : List DockItem :=
  match queue with
  | [] => []
  | i :: rest => if 7 ≤ i.offers then rest else { i with offers := i.offers + 1 } :: rest

end Sys2Proof.Machine
end

