-- ==== Sys2Proof/Certificates/Slice0/Obligations.lean ====
section
/-! DEFINITION. The statements for the provers. Each says which rule of the manual it states; where a clause rests on the
model's own choice, the log entry is named. In a statement about a request, `replied` says what answering it does, and its
first state argument is the state that the owner's rule leaves. The next request may be taken up while deliveries of the one
before it are in flight (log 40). -/

open Sys2Proof Sys2Proof.Machine

/-! ### The whole part -/

/-- A step takes the command in front of the queue and carries it out on the queue's rest. On an empty queue it takes the
oldest delivery in flight, and with none in flight it changes nothing (log 2). -/
def Obligations.StepTakesFront : Prop :=
  (∀ (c : Instr) (rest : List Instr) (s : State), s.pending = c :: rest → step s = exec c { s with pending := rest })
  ∧ (∀ (c : Instr) (rest : List Instr) (s : State), s.pending = [] → s.inflight = c :: rest → step s = exec c s)
  ∧ (∀ s : State, s.pending = [] → s.inflight = [] → step s = .next s)

/-- A timer started with some milliseconds to run is due when they have passed, and not before; a cancelled one is never due.
That an expiry is not after now is told by the half of the part time's range (log 5).
The expiry of a timer that is not due when it is taken changes nothing. So the expiry that was waiting does not occur after a
request, a delivery or a commit has cancelled its timer or started it anew: RESTART_PORT and PORT_OFF of LID, a lid vector
that replaces the rotation candidate, an input that replaces the posture candidate, COMMIT of POSTURE, and an activity event
(R12, R76, R94, R95, R151). -/
def Obligations.ExpiriesDue : Prop :=
  ((∀ (now : PartTime) (ms n : Nat), ms < 2 ^ 31 → n < 2 ^ 31 →
      ((Timer.running (now + BitVec.ofNat 32 ms)).due (now + BitVec.ofNat 32 n) = true ↔ ms ≤ n))
    ∧ ∀ now : PartTime, Timer.cancelled.due now = false)
  ∧ (∀ (c : Instr) (timer : Timer) (s : State),
      ((c, timer) ∈ ([ (.sampleTimerExpiry, s.lsp.timer), (.pollTimerExpiry, s.dlc.pollTimer),
          (.attachTimerExpiry, s.dlc.attachTimer), (.freshnessTimerExpiry .lid, s.hae.lidTimer),
          (.freshnessTimerExpiry .base, s.hae.baseTimer), (.rotationDwellExpiry, s.rot.timer),
          (.postureDwellExpiry, s.pcl.timer), (.rechargeTimerExpiry, s.pch.rechargeTimer),
          (.idleTimerExpiry, s.swa.idleTimer), (.closedHoldExpiry, s.swa.holdTimer), (.gapTimerExpiry, s.hlm.gapTimer) ]
          : List (Instr × Timer))
        ∨ ∃ st : Stream, c = .flushTimerExpiry st ∧ timer = (s.ufe.fwdAt st.id).flush) →
      timer.due s.partTime = false → exec c s = .next s)
  ∧ (∀ (tag : Byte) (s : State), 1 ≤ s.lsp.samplePeriod → s.lsp.samplePeriod ≤ 100 →
      (∃ t, exec (.restartPortLid tag) s = .next t ∧ exec .sampleTimerExpiry t = .next t)
      ∧ (s.lsp.port ≠ .off → ∃ t, exec (.portOff tag 0) s = .next t ∧ exec .sampleTimerExpiry t = .next t))
  ∧ (∀ (v : Vec3) (s : State), s.rot.rotDwell ≤ 2000 →
      ∃ t, exec (.lidVectorDelivery v) s = .next t
        ∧ (t.rot.candidate ≠ s.rot.candidate → exec .rotationDwellExpiry t = .next t))
  ∧ (∀ (c : Instr) (time : PartTime) (s : State),
      (∃ h q f, c = .hingeDelivery h q f) ∨ (∃ st, c = .pclDockStateDelivery st)
        ∨ (∃ hall a, c = .pclHallEvent hall a time) →
      (∀ r ∈ s.pcl.active, r.dwell ≤ 5000) →
      let posture (p : Pcl) : Option Posture := p.candidate.map fun i => (p.rowAt i).posture
      ∃ t, exec c s = .next t ∧ (posture t.pcl ≠ posture s.pcl → exec .postureDwellExpiry t = .next t))
  ∧ (∀ (tag : Byte) (s : State), (∃ r ∈ s.pcl.pending, r.inUse = true) → (∀ r ∈ s.pcl.pending, r.dwell ≤ 5000) →
      ∃ t, exec (.commitPosture tag) s = .next t ∧ exec .postureDwellExpiry t = .next t)
  ∧ (∀ (c : Instr) (s : State), c ∈ [Instr.keyOccurrence, .pointerOccurrence, .dockAttach, .dockDetach,
        .rotationOccurrence, .penInsertedOccurrence, .penRemovedOccurrence, .lidMotionOccurrence true] →
      s.swa.idleTimeout ≤ 3600 → ∃ t, exec c s = .next t ∧ exec .idleTimerExpiry t = .next t)

/-- Every command, with any operands, in any state, ends in a next state, and leaves the commands that wait in the
queue alone: no condition stops the part. -/
def Obligations.EveryCommandCompletes : Prop :=
  ∀ (c : Instr) (s : State), ∃ t, exec c s = .next t ∧ t.pending = s.pending

/-- A power-on reset gives every block its reset value, takes the link rate from RATE_SEL and the HOLD level from the
input, clears the receiver and the deliveries in flight (log 15), and offers nothing (R182, R170, R168).
The reset state, listed whole: the registers, flags, queues and timers of every block, its parameters and the rows of its
tables, as the chapters' reset rules and default tables give them (R3, R4, R6, R16, R23, R41, R63, R65, R75, R78, R97, R98,
R110, R115, R118, 8.4.1, R137, R139, R152, R153, R168, 11.1), with RATE_SEL low and HOLD clear (log 11). The dock wire, the
draw of the latest STATUS, `stray` and `freeCount` are the model's own (log 10). -/
def Obligations.ResetTaken : Prop :=
  (∀ (rateSel hold : Bool) (s : State), exec (.powerOnReset rateSel hold) s = .next
     { State.reset with
       hlm := { State.reset.hlm with fastLink := rateSel, rx := [], gapTimer := .cancelled }
       ufe := { State.reset.ufe with hold := hold }
       inflight := [], freeCount := s.freeCount, pending := s.pending })
  ∧ (let mount (identity : Byte) : Mount := ⟨⟨.x, false⟩, ⟨.y, false⟩, ⟨.z, false⟩, ⟨0, 0, 0⟩, identity⟩
     let fallback : Outputs := ⟨.pass, .pass, .free, .allow, .none⟩
     let postures : List PostureRow :=
       [ ⟨true, .closed, none, false, none, some true, none, none, 200, ⟨.block, .block, .hold, .allow, .closed⟩⟩,
         ⟨true, .slate, none, false, some .notAttached, some false, some false, none, 300,
           ⟨.block, .block, .free, .allow, .idle⟩⟩,
         ⟨true, .tablet, none, false, none, none, some true, none, 300, ⟨.block, .block, .free, .reduced, .idle⟩⟩,
         ⟨true, .laptop, some (320, 2560), false, some .attached, none, none, some .up, 250,
           ⟨.pass, .pass, .forceRot0, .allow, .idle⟩⟩,
         ⟨true, .flat, some (2561, 3200), false, none, none, none, some .up, 400, ⟨.pass, .pass, .free, .allow, .idle⟩⟩,
         ⟨true, .stand, some (3201, 5600), false, none, none, none, some .down, 400,
           ⟨.block, .block, .free, .allow, .idle⟩⟩,
         ⟨true, .tent, some (3201, 5600), true, none, none, none, some .edge, 400,
           ⟨.block, .block, .free, .allow, .idle⟩⟩ ]
       ++ List.replicate 9 ⟨false, .closed, none, false, none, none, none, none, 0, fallback⟩
     let profile : List ProfileRow :=
       [ ⟨true, .precharge, 60, 120, .next, none⟩, ⟨true, .bulk, 450, 5400, .fault, some 150⟩,
         ⟨true, .taper, 150, 1800, .next, some 40⟩ ] ++ List.replicate 3 ⟨false, .topup, 10, 1, .next, none⟩
     let both : RouteEntry := ⟨⟨.pass, .high⟩, ⟨.pass, .high⟩⟩
     let awake (action : RouteAction) (cls : FrameClass) : RouteEntry := ⟨⟨action, cls⟩, ⟨.drop, .low⟩⟩
     let routes : List RouteEntry :=
       [ awake (.decimate 10) .low, awake (.decimate 10) .low, awake (.changeOnly 16 50) .normal, awake .pass .high, both,
         awake .pass .high, awake .pass .normal, awake (.changeOnly 10 255) .low, both, both, awake (.decimate 64) .low,
         awake .pass .normal ]
     let line (level : Bool) : ActionLine := ⟨false, .direct, level, level, .postureEnter .tablet, .once, false⟩
     let s := State.reset
     s.partTime = 0 ∧ s.inflight = [] ∧ s.freeCount = 0 ∧ s.pending = []
     ∧ s.lif = { frontHall := ⟨3, true, 0, false⟩, rearHall := ⟨3, true, 0, false⟩
                 dockContact := ⟨10, false, 0, false⟩, penContact := ⟨10, false, 0, false⟩ }
     ∧ s.lsp = { port := .running, streak := 0, reading := false, timer := .running 10, outcome := .none, last := none
                 mount := mount 0x4A, samplePeriod := 10 }
     ∧ s.dlc = { state := .absent, al0 := true, nextPoll := 0, exchange := none, stray := false, wire := []
                 pollTimer := .cancelled, attachTimer := .cancelled, missStreak := 0, lastError := none
                 statusSeen := false, announced := false, identity := none, faultBits := 0, idMatch := .unknown
                 statusDraw := 0, queue := [], undelivered := 0, draw := 0, keyGate := .pass, pointerGate := .pass
                 heldModifier := 0, heldCodes := [], heldButtons := 0, mount := mount 0x5C, lastBase := none
                 pollPeriod := 8, answerTimeout := 1000, attachTimeout := 500, missLimit := 3, defaultDraw := 250 }
     ∧ s.hae = { lid := none, base := none, lidTimer := .cancelled, baseTimer := .cancelled, lidMoving := false
                 baseMoving := false, dock := .absent, port := .running, front := false, rear := false, raw := none
                 tracked := none, reported := none, quality := .noData, face := .unknown, filterShift := 2
                 motionThreshold := 410, motionIsActivity := false, projectionMin := 1434, hingeCal := 0
                 hingeDeadband := 16, faceT := 2896 }
     ∧ s.rot = { rot := .rot0, candidate := none, timer := .cancelled, lock := false, policy := .free, angle := none
                 rotMin := 2048, rotHyst := 240, rotDwell := 300 }
     ∧ s.pcl = { active := postures, pending := postures, posture := none, row := none, candidate := none
                 timer := .cancelled, noMatch := false, hinge := none, quality := .noData, face := .unknown
                 dock := .absent, front := false, rear := false, published := fallback }
     ∧ s.alu = { al0 := line true, al1 := line false, al2 := line false, al3 := line false }
     ∧ s.ssu = { draw := 0, allowance := .allow, railBudget := 850, coilCeiling := 850, dutyCeiling := 725
                 budgetPause := false, railLimit := 900, railReserve := 50, coilFull := 1200, dutyMax := 900
                 coilMin := 100 }
     ∧ s.pch = { state := .empty, elapsed := 0, probeCount := 0, probePassed := false, staged := 0, applied := 0
                 ocStreak := 0, exitStreak := 0, rechargeTimer := .cancelled, lastCurrent := 0, allowance := .allow
                 dutyCeiling := 725, budgetPause := false, active := profile, pending := profile, interval := 10
                 regInterval := 10, probeMin := 20, regBand := 10, regStep := 8, ocLimit := 1100
                 rechargeInterval := 600 }
     ∧ s.swa = { platform := .awake, advice := none, cls := .none, idleTimer := .running 120000
                 holdTimer := .cancelled, lastWake := none, wakeRaised := false, wakeSet := 0, idleTimeout := 120
                 closedHold := 1000, wakeGuard := 2000, wakeMask := 0x4F }
     ∧ s.ufe = { queue := [], sending := none, finalLost := none, hold := false, column := .awake, active := routes
                 pending := routes, fwd := List.replicate 12 ⟨0, none, 0, [], .cancelled⟩, gaps := List.replicate 15 0 }
     ∧ s.hlm = { fastLink := false, rx := [], gapTimer := .cancelled, queue := [], head := .idle, busy := false
                 checkErrors := 0, kindErrors := 0, lengthErrors := 0, gapErrors := 0, overruns := 0, lastLost := none
                 busyOn := 6, busyOff := 2 })

/-- SOFT_RESET at the head is answered OK at once by a RESPONSE marked final, which waits in flight (log 2); its frame leaves
the queue, BUSY follows, and the host link takes up no further head (R181, R174).
At the completion of the final RESPONSE, or of the frame behind which its loss waits (log 28), the SOFT_RESET is carried out: every
block takes its reset value, part time restarts at 0, the downstream queue is emptied, and the link rate, the HOLD level
(log 29) and the receiver are kept. The received bytes keep their order and values, and their times, like the gap timer, are
taken on the new part time (log 16). Deliveries in flight are lost (log 15), and dock activity that has begun is still ignored
(log 6) (R41, R165, R168, R181). -/
def Obligations.SoftReset : Prop :=
  (∀ (tag : Byte) (s : State), headIs (.softReset tag) s = true →
     ∃ t, exec (.softReset tag) s = .next t ∧ kept [.hlm] s t
       ∧ issued (.softReset tag) [.recordOffer (.response tag 0x0E .ok 0xFF [] true)] s t
       ∧ t.hlm = { s.hlm with
           queue := s.hlm.queue.tail, head := .resetting
           busy := if s.hlm.queue.tail.length ≤ s.hlm.busyOff then false else s.hlm.busy })
  ∧ (∀ (s : State) (x : Sending), s.ufe.sending = some x → x.frame.final = true ∨ s.ufe.finalLost ≠ none →
       exec .frameCompletion s = .next { State.reset with
         dlc := { State.reset.dlc with stray := s.dlc.stray || s.exchanging Exchange.answering }
         hlm := { State.reset.hlm with
           fastLink := s.hlm.fastLink
           rx := s.hlm.rx.map fun b => { b with time := b.time - s.partTime }
           gapTimer := match s.hlm.gapTimer with
             | .cancelled => .cancelled
             | .running expiry => .running (expiry - s.partTime) }
         ufe := { State.reset.ufe with hold := s.ufe.hold }
         freeCount := s.freeCount, pending := s.pending })

/-! ### Bounds that every step keeps -/

/-- The reset state lies within every bound below. -/
def Obligations.ResetMeetsBounds : Prop :=
  upstreamBounded State.reset ∧ transmitterSettled State.reset ∧ finalsHigh State.reset
  ∧ downstreamBounded State.reset ∧ offersBounded State.reset ∧ banksShaped State.reset
  ∧ firstStageInUse State.reset ∧ hingeInRange State.reset ∧ dwellsPaired State.reset ∧ coilQuiet State.reset
  ∧ sleepConsistent State.reset ∧ busyConsistent State.reset

/-- The upstream queue never holds more than 48 frames, and never more than 40 of classes NORMAL and LOW together (R163). A
final RESPONSE is queued at class HIGH (R155), its loss waits only behind a frame in transmission (log 28), and frames wait only while
the transmitter is busy or HOLD is asserted (R165, R166). -/
def Obligations.UpstreamBoundsKept : Prop :=
  ∀ s t : State, step s = .next t →
    (upstreamBounded s → upstreamBounded t) ∧ (transmitterSettled s → transmitterSettled t)
    ∧ (finalsHigh s → finalsHigh t)

/-- The downstream queue never holds more than 8 frames and the dock's queue never more than 4 items (11.1, R31).
No queued dock item has been offered 8 times unconsumed: at the eighth it is discarded (R32). -/
def Obligations.DownstreamBoundsKept : Prop :=
  (∀ s t : State, downstreamBounded s → step s = .next t → downstreamBounded t)
  ∧ (∀ s t : State, offersBounded s → step s = .next t → offersBounded t)

/-- Every bank keeps its number of rows, whatever a request writes, and row 0 of the profile stays in use (R157, R133). -/
def Obligations.BanksKept : Prop :=
  ∀ s t : State, banksShaped s ∧ firstStageInUse s → step s = .next t → banksShaped t ∧ firstStageInUse t

/-- The raw hinge stays in 0..5759, and the tracked and the reported hinge stay in 0..5760 (3.2). -/
def Obligations.HingeRangeKept : Prop :=
  ∀ s t : State, hingeInRange s → step s = .next t → hingeInRange t

/-- The rotation and posture dwell timers run exactly while there is a candidate (4.1, 5.2).
The WAKE line is asserted exactly while the reason set is not empty, and no advice stands while ASLEEP (9.1).
BUSY_OFF stays below BUSY_ON, and BUSY stays asserted from BUSY_ON frames on and released down from BUSY_OFF frames
(R174). -/
def Obligations.ConsistencyKept : Prop :=
  (∀ s t : State, dwellsPaired s → step s = .next t → dwellsPaired t)
  ∧ (∀ s t : State, sleepConsistent s → step s = .next t → sleepConsistent t)
  ∧ (∀ s t : State, busyConsistent s → step s = .next t → busyConsistent t)

/-- The applied coil duty is 0 while the charger is EMPTY, DONE, PAUSED or FAULT, and nothing is staged there (8.2). -/
def Obligations.CoilQuietKept : Prop :=
  ∀ s t : State, coilQuiet s → step s = .next t → coilQuiet t

/-! ### Line inputs and the lid sensor port (chapter 1) -/

/-- A sample of a filtered line that agrees with its level starts the count again; one that disagrees is counted, and once
as many in a row as the stage count have disagreed, the level changes and is reported (R1). The filter reports its new level
when the level has changed, and nothing otherwise (R2).
LIF_SAMPLE always completes: it samples the four lines through their filters, and each level that changes is delivered to
the consumers of its line, with the part time of the sample, and offered as a LINE_EVENT (R1, R2). All else is kept. The
sample is the part's millisecond (log 3). -/
def Obligations.LinesFiltered : Prop :=
  ((∀ (f : LineFilter) (pinHigh : Bool),
     let active : Bool := if f.activeLow then !pinHigh else pinHigh
     (active = f.level → f.sample pinHigh = ({ f with count := 0 }, none))
     ∧ (active ≠ f.level → f.count + 1 < f.stages → f.sample pinHigh = ({ f with count := f.count + 1 }, none))
     ∧ (active ≠ f.level → f.stages ≤ f.count + 1 →
         f.sample pinHigh = ({ f with count := 0, level := active }, some active))
     ∧ (f.sample pinHigh).2 = (if (f.sample pinHigh).1.level = f.level then none else some (f.sample pinHigh).1.level))
   ∧ (∀ (f : LineFilter) (pinHigh : Bool), f.count = 0 → 1 ≤ f.stages → (pinHigh != f.activeLow) ≠ f.level →
     (∀ n < f.stages, (fun g => (g.sample pinHigh).1)^[n] f = { f with count := n })
     ∧ (fun g => (g.sample pinHigh).1)^[f.stages] f = { f with level := !f.level, count := 0 }))
  ∧ (∀ (frontHall rearHall dockContact penContact : Bool) (s : State),
       let now := s.partTime + 1
       let offered (line : Line) (b : Bool) : Instr := .recordOffer (.lineEvent line b (now.setWidth 16))
       let out (change : Option Bool) (cs : Bool → List Instr) : List Instr := (change.map cs).getD []
       let front := s.lif.frontHall.sample frontHall
       let rear := s.lif.rearHall.sample rearHall
       let dock := s.lif.dockContact.sample dockContact
       let pen := s.lif.penContact.sample penContact
       exec (.lifSample frontHall rearHall dockContact penContact) s = .next { s with
         partTime := now
         lif := { frontHall := front.1, rearHall := rear.1, dockContact := dock.1, penContact := pen.1 }
         inflight := s.inflight
           ++ out front.2 (fun b => [.haeHallEvent .front b now, .pclHallEvent .front b now, offered .frontHall b])
           ++ out rear.2 (fun b => [.haeHallEvent .rear b now, .pclHallEvent .rear b now, offered .rearHall b])
           ++ out dock.2 (fun b => [.dockContactEvent b now, offered .dockContact b])
           ++ out pen.2 (fun b => [if b then .penInsertion now else .penRemoval now, offered .penContact b]) })

/-- At an expiry of the sample timer, when it is due, the timer restarts with SAMPLE_PERIOD; a read starts, or the one in progress goes
on (R6).
A read that returns the expected identity and new data is GOOD: the failure streak is 0, and the mapped sample goes to
the hinge engine and to the UFE (R7, R8).
A read with another identity is ID_MISMATCH, and one with the identity but no new data NO_NEW_DATA. Either adds 1 to
the failure streak, and at a streak of 3 the port is STALLED, its timer cancelled, the FAULT offered and the hinge engine
told (R7, R9). -/
def Obligations.LidReads : Prop :=
  (∀ s : State, s.lsp.timer.due s.partTime = true →
     ∃ t, exec .sampleTimerExpiry s = .next t
       ∧ t.lsp = { s.lsp with
           reading := true, timer := .running (s.partTime + BitVec.ofNat 32 s.lsp.samplePeriod) }
       ∧ kept [.lsp] s t ∧ t.inflight = s.inflight)
  ∧ (∀ (x y z : BitVec 16) (s : State), s.lsp.reading = true →
       let v := s.lsp.mount.map ⟨x.toInt, y.toInt, z.toInt⟩
       ∃ t, exec (.readCompletion s.lsp.mount.identity true x y z) s = .next t
         ∧ t.lsp = { s.lsp with reading := false, outcome := .good, streak := 0, last := some ⟨.lid, v, s.partTime⟩ }
         ∧ kept [.lsp] s t
         ∧ t.inflight = s.inflight
           ++ [.computation ⟨.lid, v, s.partTime⟩, .recordOffer (.lidSample v (s.partTime.setWidth 16))])
  ∧ (∀ (identity : Byte) (newData : Bool) (x y z : BitVec 16) (s : State), s.lsp.reading = true →
       identity ≠ s.lsp.mount.identity ∨ newData = false →
       let outcome := if identity ≠ s.lsp.mount.identity then ReadOutcome.idMismatch else .noNewData
       ∃ t, exec (.readCompletion identity newData x y z) s = .next t ∧ kept [.lsp] s t
         ∧ (s.lsp.streak < 2 →
             t.lsp = { s.lsp with reading := false, outcome := outcome, streak := s.lsp.streak + 1 }
             ∧ t.inflight = s.inflight)
         ∧ (2 ≤ s.lsp.streak →
             t.lsp = { s.lsp with
               reading := false, outcome := outcome, streak := 3, port := .stalled, timer := .cancelled }
             ∧ t.inflight = s.inflight
               ++ [.recordOffer (.fault .lidPortStalled (s.partTime.setWidth 16)), .portStateDelivery .stalled]))

/-- A GOOD read records a sample whose every axis is its source value, negated under the sign − with −32768 taken as
32767, less the axis's offset, with a result beyond −32768..32767 taken as the nearer bound (R14). Mapping a sample through
any mount record stays within that range. -/
def Obligations.MountMapping : Prop :=
  (∀ (x y z : BitVec 16) (s : State), s.lsp.reading = true →
     let m := s.lsp.mount
     let fetched (a : Axis) : Int := match a with | .x => x.toInt | .y => y.toInt | .z => z.toInt
     let source (c : Source) : Int :=
       if c.negate then (if fetched c.axis = -32768 then 32767 else -fetched c.axis) else fetched c.axis
     let mapped (c : Source) (offset : Int) : Int :=
       if 32767 < source c - offset then 32767
       else if source c - offset < -32768 then -32768 else source c - offset
     ∃ t, exec (.readCompletion m.identity true x y z) s = .next t
       ∧ t.lsp.last = some ⟨.lid,
           ⟨mapped m.srcX m.offset.x, mapped m.srcY m.offset.y, mapped m.srcZ m.offset.z⟩, s.partTime⟩)
  ∧ (∀ (m : Mount) (v : Vec3), (m.map v).wf = true)

/-- PORT_OFF of LID turns the port off, unless it is off, and tells the hinge engine; another port is refused with nothing
changed. RESTART_PORT of LID sets the port RUNNING with a streak of 0, starts the timer, and has the lid filter cleared
(R10, R11, R176). -/
def Obligations.LidPortRequests : Prop :=
  (∀ (tag : Byte) (s : State), s.lsp.port ≠ .off →
    let c : Instr := .portOff tag 0
    ∃ t, exec c s = .next t ∧ replied c tag 0x0D .ok 0xFF []
      (((s.took c).setLsp { s.lsp with port := .off, timer := .cancelled, reading := false }).emits
        [.portStateDelivery .off]) t)
  ∧ (∀ (tag : Byte) (s : State), s.lsp.port = .off →
    let c : Instr := .portOff tag 0
    ∃ t, exec c s = .next t ∧ replied c tag 0x0D .ok 0xFF [] (s.took c) t)
  ∧ (∀ (tag port : Byte) (s : State), port ≠ 0 →
    let c : Instr := .portOff tag port
    ∃ t, exec c s = .next t ∧ replied c tag 0x0D .badRequest 0xFF [] (s.took c) t)
  ∧ (∀ (tag : Byte) (s : State),
    let c : Instr := .restartPortLid tag
    ∃ t, exec c s = .next t ∧ replied c tag 0x0C .ok 0xFF []
      (((s.took c).setLsp { s.lsp with
          port := .running, streak := 0, reading := false
          timer := .running (s.partTime + BitVec.ofNat 32 s.lsp.samplePeriod) }).emits
        [.lidFilterClear, .portStateDelivery .running]) t)

/-! ### The dock link (chapter 2) -/

/-- At an expiry of the poll timer, when it is due, it restarts with POLL_PERIOD, or eight times that in MUTE. With no exchange in progress
a POLL goes out with the next poll number and the head item, if any, and the exchange is recorded (R18). The bytes of the
POLL are 0xA5, the poll number, the length of the item or 0xFF for none, the item and CHECK over all but the first (11.7.7).
An answer begins for the exchange in progress; with none in progress, wire activity and its end change nothing but
the note of it, and a timeout finds nothing once the answer has begun (R19). Activity that began so, or whose exchange was
abandoned, is ignored to its end also while a later exchange is in progress: the end or the cut-off clears the note, and the
later exchange goes on (R19, log 6). -/
def Obligations.PollsAndWire : Prop :=
  (∀ s : State, s.dlc.pollTimer.due s.partTime = true →
     let ms := if s.dlc.state = .mute then 8 * s.dlc.pollPeriod else s.dlc.pollPeriod
     let timer := Timer.running (s.partTime + BitVec.ofNat 32 ms)
     let body : List Byte := s.dlc.nextPoll :: match s.dlc.queue with
       | [] => [0xFF]
       | item :: _ => BitVec.ofNat 8 item.bytes.length :: item.bytes
     ∃ t, exec .pollTimerExpiry s = .next t ∧ kept [.dlc] s t ∧ t.inflight = s.inflight
       ∧ (s.dlc.exchange ≠ none → t.dlc = { s.dlc with pollTimer := timer })
       ∧ (s.dlc.exchange = none → t.dlc = { s.dlc with
           pollTimer := timer
           nextPoll := s.dlc.nextPoll + 1
           wire := 0xA5 :: body ++ [crc8 body]
           exchange := some ⟨s.dlc.nextPoll, s.dlc.queue ≠ [], false, s.dlc.answerTimeout⟩ }))
  ∧ ((∀ (e : Exchange) (s : State), s.dlc.exchange = some e →
       exec .answerBegin s = .next (s.setDlc { s.dlc with exchange := some { e with answering := true }, stray := false }))
     ∧ (∀ s : State, s.dlc.exchange = none → exec .answerBegin s = .next (s.setDlc { s.dlc with stray := true }))
     ∧ (∀ (bytes : List Byte) (s : State), s.dlc.exchange = none →
       exec (.answerEnd bytes) s = .next (s.setDlc { s.dlc with stray := false })
       ∧ exec .answerCutoff s = .next (s.setDlc { s.dlc with stray := false }))
     ∧ (∀ (bytes : List Byte) (s : State), s.dlc.stray = true →
       exec (.answerEnd bytes) s = .next (s.setDlc { s.dlc with stray := false })
       ∧ exec .answerCutoff s = .next (s.setDlc { s.dlc with stray := false }))
     ∧ (∀ (e : Exchange) (s : State), s.dlc.exchange = some e → e.answering = true → exec .answerTimeout s = .next s))

/-- An exchange that ends as MISS (no answer before the timeout, or another poll number), CORRUPT (cut off, or a bad
CHECK) or MALFORMED is over: the riding item's offer is counted, the miss streak goes up to at most 255, the last-error
record is overwritten, and in ATTACHED a streak at MISS_LIMIT enters MUTE (R19, R21, R26, R32). An end whose ANSWER_BEGIN
was not commanded counts as well (log 6).
An item given up at its eighth offer is counted as undelivered, with a notice of room (R31 to R33). Entry to MUTE is
delivered, and its DOCK_EVENT reports and clears the undelivered count; a discard without it is reported by ITEMS_DROPPED
(R26, R27, R33). The deliveries wait in flight in this order (log 2). -/
def Obligations.ExchangeFails : Prop :=
  ∀ (c : Instr) (kind : FailKind) (e : Exchange) (s : State), s.dlc.exchange = some e →
    (c = .answerTimeout ∧ kind = .miss ∧ e.answering = false
      ∨ c = .answerCutoff ∧ kind = .corrupt ∧ s.dlc.stray = false
      ∨ ∃ bytes, c = .answerEnd bytes ∧ s.dlc.stray = false ∧ classifyAnswer e.poll bytes = .failed kind) →
    let given : Bool := e.riding && s.dlc.queue.head?.any fun i => 7 ≤ i.offers
    let count := if given then min 255 (s.dlc.undelivered + 1) else s.dlc.undelivered
    let streak := min 255 (s.dlc.missStreak + 1)
    let muted : Bool := s.dlc.state = .attached ∧ s.dlc.missLimit ≤ streak
    let draw := if ¬ muted then s.dlc.draw else if s.dlc.statusSeen then s.dlc.statusDraw else s.dlc.defaultDraw
    let ts := s.partTime.setWidth 16
    ∃ t, exec c s = .next t ∧ kept [.dlc] s t
      ∧ t.dlc = { s.dlc with
          exchange := none, missStreak := streak, lastError := some ⟨kind, e.poll, s.partTime⟩
          queue := if e.riding then afterUnconsumed s.dlc.queue else s.dlc.queue
          undelivered := if muted ∨ given then 0 else s.dlc.undelivered
          state := if muted then .mute else s.dlc.state, draw := draw }
      ∧ t.inflight = s.inflight ++ (if given then [.dockRoomNotice] else [])
        ++ (if muted then [.haeDockStateDelivery .mute, .pclDockStateDelivery .mute]
              ++ (if draw = s.dlc.draw then [] else [.drawDelivery draw])
              ++ [.recordOffer (.dockEvent .mute .mute count ts)]
            else if given then [.recordOffer (.dockEvent .itemsDropped s.dlc.state count ts)] else [])

/-- A well-laid answer with the awaited poll number reads back as the consumed mark and the records it was made of; with
another poll number it is a MISS, and with another CHECK it is CORRUPT, whatever it holds (R19, R20, 11.7.7). A key code of
0 reads back like any other (log 21).
An answer with the awaited number and its own CHECK is MALFORMED when it holds more than four records or two of one kind, a
record of a kind that is none of the four, a record whose length does not fit its kind, or a record that the declared
length cuts short, and when its declared length leaves no room for the consumed mark (R19). -/
def Obligations.AnswerReadsBack : Prop :=
  let sent (records : List DockRecord) : Prop := ∀ r ∈ records, match r with
    | .key _ codes => codes.length ≤ 6
    | .baseMotion x y z _ => inSample x = true ∧ inSample y = true ∧ inSample z = true
    | .status draw _ _ => draw ≤ 1000
    | .pointer _ _ _ _ => True
  (∀ (echo : Byte) (consumed : Bool) (records : List DockRecord), records.length ≤ 4 →
    (records.map DockRecord.kind).Nodup → sent records →
    let wire := answerWire echo consumed records
    classifyAnswer echo wire = .good consumed records
    ∧ (∀ awaited, awaited ≠ echo → classifyAnswer awaited wire = .failed .miss)
    ∧ (∀ awaited check, wire.getLast? ≠ some check →
        classifyAnswer awaited (wire.dropLast ++ [check]) = .failed .corrupt))
  ∧ (∀ (awaited mark : Byte) (records : List DockRecord) (tail : List Byte), sent records →
    (records.flatMap DockRecord.bytes ++ tail).length ≤ 254 →
    let body := mark :: records.flatMap DockRecord.bytes ++ tail
    let checked := awaited :: byteOf body.length :: body
    let malformed := classifyAnswer awaited (0x5A :: checked ++ [crc8 checked]) = .failed .malformed
    (tail = [] → 4 < records.length ∨ ¬ (records.map DockRecord.kind).Nodup → malformed)
    ∧ (∀ (kind len : Byte) (fields rest : List Byte), tail = kind :: len :: fields ++ rest → fields.length = len.toNat →
        (match kind.toNat with
          | 1 => len = 0 ∨ 7 < len.toNat
          | 2 => len ≠ 4
          | 3 => len ≠ 7
          | 4 => len ≠ 4
          | _ => True) → malformed)
    ∧ (∀ kind, tail = [kind] → malformed)
    ∧ (∀ (kind len : Byte) (fields : List Byte), tail = kind :: len :: fields → fields.length < len.toNat → malformed))
  ∧ (∀ awaited : Byte, classifyAnswer awaited [0x5A, awaited, 0, crc8 [awaited, 0]] = .failed .malformed)

/-- A GOOD answer ends the exchange with a miss streak of 0. A consumed riding item leaves the queue, an unconsumed one is
counted. MUTE, and ATTACHING with a STATUS record, become ATTACHED (R22, R25, R26, R32). An answer whose ANSWER_BEGIN was not
commanded is taken as begun (log 6).
An item that leaves gives a notice of room, and one given up at its eighth offer is counted as undelivered (R31 to R33).
The first entry to ATTACHED since ATTACHING is announced with DOCK_EVENT ATTACHED, the attach and its trigger, and any other
with RECOVERED; each reports and clears the undelivered count. The records are then handled one after another in ATTACHED,
and in no other state. A discard that no event has reported is reported at the end by ITEMS_DROPPED (R22, R25 to R27, R33).
The deliveries wait in flight in this order (log 2). -/
def Obligations.ExchangeGood : Prop :=
  ∀ (bytes : List Byte) (consumed : Bool) (records : List DockRecord) (e : Exchange) (s : State),
    s.dlc.exchange = some e → s.dlc.stray = false → classifyAnswer e.poll bytes = .good consumed records →
    let given : Bool := e.riding && !consumed && s.dlc.queue.head?.any fun i => 7 ≤ i.offers
    let left : Bool := e.riding && consumed && s.dlc.queue ≠ []
    let count := if given then min 255 (s.dlc.undelivered + 1) else s.dlc.undelivered
    let ts := s.partTime.setWidth 16
    let settled : State := { s with
      dlc := { s.dlc with
        exchange := none, missStreak := 0, undelivered := count
        queue := if e.riding then (if consumed then s.dlc.queue.tail else afterUnconsumed s.dlc.queue) else s.dlc.queue }
      inflight := s.inflight ++ if given ∨ left then [.dockRoomNotice] else [] }
    let draw := if s.dlc.statusSeen then s.dlc.statusDraw else s.dlc.defaultDraw
    let entered (kind : DockEventKind) (attachTimer : Timer) (more : List Instr) : State := { settled with
      dlc := { settled.dlc with
        state := .attached, attachTimer := attachTimer, announced := true, draw := draw, undelivered := 0 }
      inflight := settled.inflight ++ [.haeDockStateDelivery .attached, .pclDockStateDelivery .attached]
        ++ (if draw = s.dlc.draw then [] else [.drawDelivery draw])
        ++ [.recordOffer (.dockEvent kind .attached count ts)] ++ more }
    let told : List Instr := [.dockAttach, .triggerDelivery .dockAttached]
    let reported (u : State) : State := if ¬ given then u else { u with
      dlc := { u.dlc with undelivered := 0 }
      inflight := u.inflight ++ [.recordOffer (.dockEvent .itemsDropped s.dlc.state count ts)] }
    ∃ t, exec (.answerEnd bytes) s = .next t ∧ kept [.dlc] s t
      ∧ t.dlc.exchange = none ∧ t.dlc.missStreak = 0 ∧ t.dlc.lastError = s.dlc.lastError
      ∧ t.dlc.queue = settled.dlc.queue
      ∧ t.dlc.state = (match s.dlc.state with
          | .attaching => if records.any DockRecord.isStatus then .attached else .attaching
          | .mute => .attached
          | st => st)
      ∧ (s.dlc.state = .attaching → records.any DockRecord.isStatus = true →
          t = records.foldl handleRecord (entered .attached .cancelled told))
      ∧ (s.dlc.state = .mute → s.dlc.announced = false →
          t = records.foldl handleRecord (entered .attached s.dlc.attachTimer told))
      ∧ (s.dlc.state = .mute → s.dlc.announced = true →
          t = records.foldl handleRecord (entered .recovered s.dlc.attachTimer []))
      ∧ (s.dlc.state = .attached → t = reported (records.foldl handleRecord settled))
      ∧ (s.dlc.state = .attaching ∧ records.any DockRecord.isStatus = false
          ∨ s.dlc.state = .absent ∨ s.dlc.state = .unpowered → t = reported settled)

/-- One record of a GOOD answer in ATTACHED: KEY and POINTER are forwarded under PASS, recorded as held, and reported as
an occurrence; under BLOCK they are dropped. BASE_MOTION with new data and a matched identity is mapped into a base
sample. STATUS sets the identity, the fault bits and the draw (R36, R38, R40). Deliveries wait in flight in this order
(log 2), and an answer whose begin was not commanded is taken as begun (log 6).
Several records are handled one after another, each on the state that the one before it leaves (R22). -/
def Obligations.DockRecordsHandled : Prop :=
  let handled (r : DockRecord) (s t : State) : Prop :=
    let d := s.dlc
    let ts := s.partTime.setWidth 16
    kept [.dlc] s t ∧ (match r with
      | .key modifier codes =>
        if d.keyGate = .block then t.dlc = d ∧ t.inflight = s.inflight
        else t.dlc = { d with heldModifier := modifier, heldCodes := codes }
          ∧ t.inflight = s.inflight ++ .recordOffer (.key false modifier codes ts)
            :: (if modifier = 0 ∧ codes = [] then [] else [.keyOccurrence])
      | .pointer dx dy buttons wheel =>
        if d.pointerGate = .block then t.dlc = d ∧ t.inflight = s.inflight
        else t.dlc = { d with heldButtons := buttons }
          ∧ t.inflight = s.inflight ++ .recordOffer (.pointer false dx dy buttons wheel ts)
            :: (if dx = 0 ∧ dy = 0 ∧ buttons = 0 ∧ wheel = 0 then [] else [.pointerOccurrence])
      | .baseMotion x y z newData =>
        let v := d.mount.map ⟨x, y, z⟩
        if newData = true ∧ d.idMatch = .matched then
          t.dlc = { d with lastBase := some ⟨.base, v, s.partTime⟩ }
          ∧ t.inflight = s.inflight ++ [.computation ⟨.base, v, s.partTime⟩, .recordOffer (.baseSample v ts)]
        else t.dlc = d ∧ t.inflight = s.inflight
      | .status draw identity faultBits =>
        t.dlc = { d with
          statusSeen := true, identity := some identity, faultBits := faultBits, statusDraw := draw, draw := draw
          idMatch := if identity = d.mount.identity then .matched else .mismatched }
        ∧ t.inflight = s.inflight
          ++ (if draw = d.draw then [] else [.drawDelivery draw])
          ++ [.recordOffer (.dockStatus draw identity faultBits ts)])
  (∀ (bytes : List Byte) (consumed : Bool) (records : List DockRecord) (e : Exchange) (s : State),
    s.dlc.exchange = some e → e.riding = false → s.dlc.stray = false → s.dlc.state = .attached →
    classifyAnswer e.poll bytes = .good consumed records →
    let s0 := s.setDlc { s.dlc with exchange := none, missStreak := 0 }
    ∃ t, exec (.answerEnd bytes) s = .next t ∧ kept [.dlc] s t ∧ t = records.foldl handleRecord s0
      ∧ ∀ r, records = [r] → handled r s0 t)
  ∧ (∀ (r : DockRecord) (s : State), s.dlc.state = .attached →
      handled r s (handleRecord s r) ∧ (handleRecord s r).dlc.state = .attached)

/-- A contact assertion in ABSENT with AL0 on, and AL0 on in UNPOWERED, enter ATTACHING: the bookkeeping is cleared, the
two timers start and the default draw is taken. A contact assertion in ABSENT with AL0 off enters UNPOWERED (R24, R25,
R31). Any other AL0 level that tears nothing down is recorded alone (R24).
The attach timer's expiry in ATTACHING, when it is due, moves the dock to MUTE, with the DOCK_EVENT that reports and clears the
undelivered count (R25, R26, R33). -/
def Obligations.DockArrives : Prop :=
  (∀ (c : Instr) (time : PartTime) (s : State),
     let entered (al0 : Bool) : Dlc := { s.dlc with
       state := .attaching, al0 := al0, statusSeen := false, announced := false, idMatch := .unknown, identity := none
       missStreak := 0, draw := s.dlc.defaultDraw
       attachTimer := .running (s.partTime + BitVec.ofNat 32 s.dlc.attachTimeout)
       pollTimer := .running (s.partTime + BitVec.ofNat 32 s.dlc.pollPeriod) }
     let told : List Instr := [.haeDockStateDelivery .attaching, .pclDockStateDelivery .attaching]
       ++ if s.dlc.defaultDraw = s.dlc.draw then [] else [.drawDelivery s.dlc.defaultDraw]
     (c = .dockContactEvent true time ∧ s.dlc.state = .absent ∧ s.dlc.al0 = true
         ∨ c = .al0LevelDelivery true ∧ s.dlc.state = .unpowered ∧ s.dlc.al0 = false →
       ∃ t, exec c s = .next t ∧ t.dlc = entered true ∧ kept [.dlc] s t ∧ issued c told s t)
     ∧ (c = .dockContactEvent true time ∧ s.dlc.state = .absent ∧ s.dlc.al0 = false →
       ∃ t, exec c s = .next t ∧ t.dlc = { s.dlc with state := .unpowered } ∧ kept [.dlc] s t
         ∧ issued c [.haeDockStateDelivery .unpowered, .pclDockStateDelivery .unpowered, .dockRoomNotice] s t))
  ∧ (∀ (on : Bool) (s : State),
       on = s.dlc.al0 ∨ s.dlc.state = .absent ∨ (on = false ∧ s.dlc.state = .unpowered)
         ∨ (on = true ∧ s.dlc.state.live = true) →
       exec (.al0LevelDelivery on) s =
         .next ((s.took (.al0LevelDelivery on)).setDlc { s.dlc with al0 := on }))
  ∧ (∀ s : State, s.dlc.attachTimer.due s.partTime = true → s.dlc.state = .attaching →
       ∃ t, exec .attachTimerExpiry s = .next t ∧ kept [.dlc] s t
         ∧ t.dlc = { s.dlc with state := .mute, attachTimer := .cancelled, undelivered := 0, draw := t.dlc.draw }
         ∧ t.dlc.draw = (if s.dlc.statusSeen then s.dlc.statusDraw else s.dlc.defaultDraw)
         ∧ t.inflight = s.inflight ++ [.haeDockStateDelivery .mute, .pclDockStateDelivery .mute]
           ++ (if t.dlc.draw = s.dlc.draw then [] else [.drawDelivery t.dlc.draw])
           ++ [.recordOffer (.dockEvent .mute .mute s.dlc.undelivered (s.partTime.setWidth 16))])

/-- A contact clear in any state but ABSENT tears the dock down to ABSENT, and AL0 off in ATTACHING, ATTACHED or MUTE to
UNPOWERED: the exchange and the timers end, the queue goes into the undelivered count, which the DOCK_EVENT reports, and
the held input, the draw and the identity are cleared. AL0 off is recorded, and all else of the dock link is kept. The
deliveries follow in the order of R28, with one notice of room (log 25), and wait in flight (log 2) (R24, R27, R28, R33).
An answer that has begun stays on the wire to be ignored (R28, log 6). -/
def Obligations.DockTornDown : Prop :=
  ∀ (c : Instr) (time : PartTime) (target : DockState) (kind : DockEventKind) (al0 : Bool) (more : List Instr)
    (s : State),
    (c = .dockContactEvent false time ∧ s.dlc.state ≠ .absent ∧ target = .absent ∧ kind = .detached ∧ al0 = s.dlc.al0
        ∧ more = [.dockDetach, .triggerDelivery .dockAbsent]
      ∨ c = .al0LevelDelivery false ∧ s.dlc.state.live = true ∧ s.dlc.al0 = true ∧ target = .unpowered
        ∧ kind = .unpowered ∧ al0 = false ∧ more = []) →
    ∃ t, exec c s = .next t ∧ kept [.dlc] s t
      ∧ t.dlc = { s.dlc with
          state := target, al0 := al0, exchange := none, stray := s.dlc.stray || s.exchanging Exchange.answering
          pollTimer := .cancelled, attachTimer := .cancelled, queue := [], undelivered := 0, draw := 0
          identity := none, idMatch := .unknown, heldModifier := 0, heldCodes := [], heldButtons := 0 }
      ∧ issued c
        ([.dockRoomNotice, .baseInvalidation]
          ++ (if s.dlc.state = target then [] else [.haeDockStateDelivery target, .pclDockStateDelivery target])
          ++ (if s.dlc.draw = 0 then [] else [.drawDelivery 0])
          ++ [.recordOffer (.dockEvent kind target (min 255 (s.dlc.undelivered + s.dlc.queue.length))
            (s.partTime.setWidth 16))] ++ more) s t

/-- A gate that changes from PASS to BLOCK while something is held offers one all-released record and clears the held
state; any other gate delivery is recorded alone (R37). -/
def Obligations.GatesDelivered : Prop :=
  ∀ (value : Gate) (s : State),
    let key : Instr := .gateDelivery .key value
    let pointer : Instr := .gateDelivery .pointer value
    let keyHeld := s.dlc.keyGate = .pass ∧ value = .block ∧ (s.dlc.heldModifier ≠ 0 ∨ s.dlc.heldCodes ≠ [])
    let buttonHeld := s.dlc.pointerGate = .pass ∧ value = .block ∧ s.dlc.heldButtons ≠ 0
    (∃ t, exec key s = .next t ∧ kept [.dlc] s t
      ∧ (keyHeld → t.dlc = { s.dlc with keyGate := value, heldModifier := 0, heldCodes := [] }
        ∧ issued key [.recordOffer (.key true 0 [] (s.partTime.setWidth 16))] s t)
      ∧ (¬ keyHeld → t.dlc = { s.dlc with keyGate := value } ∧ issued key [] s t))
    ∧ (∃ t, exec pointer s = .next t ∧ kept [.dlc] s t
      ∧ (buttonHeld → t.dlc = { s.dlc with pointerGate := value, heldButtons := 0 }
        ∧ issued pointer [.recordOffer (.pointer true 0 0 0 0 (s.partTime.setWidth 16))] s t)
      ∧ (¬ buttonHeld → t.dlc = { s.dlc with pointerGate := value } ∧ issued pointer [] s t))

/-- An item handed over in ATTACHING, ATTACHED or MUTE joins the tail of a queue of fewer than four with an offer count of
0, and is refused by a queue of four; in ABSENT or UNPOWERED it is discarded into the undelivered count, which
ITEMS_DROPPED reports. An item taken or discarded from the head of the downstream queue leaves it, and the next head is
taken up; a refused one waits there, and is handed again at a notice of room (R31, R33, R175). The head state is IDLE until
the item is refused (log 24). -/
def Obligations.ItemsHanded : Prop :=
  [DockState.absent, .unpowered, .attaching, .attached, .mute].map DockState.live = [false, false, true, true, true]
  ∧ ∀ (f : DownFrame) (rest : List DownFrame) (s : State), f.kind = .dockItem → s.hlm.queue = f :: rest →
    ∀ c : Instr, (c = .dockItemHandover f.payload ∧ s.hlm.head = .idle
        ∨ c = .dockRoomNotice ∧ s.hlm.head = .waitingForDockRoom) →
    let left : Hlm := { s.hlm with
      queue := rest, head := (nextHead rest).1
      busy := if rest.length ≤ s.hlm.busyOff then false else s.hlm.busy }
    ∃ t, exec c s = .next t ∧ kept [.dlc, .hlm] s t
      ∧ (s.dlc.state.live = true ∧ 4 ≤ s.dlc.queue.length →
          t.dlc = s.dlc ∧ t.hlm = { s.hlm with head := .waitingForDockRoom } ∧ issued c [] s t)
      ∧ (s.dlc.state.live = true ∧ s.dlc.queue.length < 4 →
          t.dlc = { s.dlc with queue := s.dlc.queue ++ [⟨f.payload, 0⟩] } ∧ t.hlm = left ∧ issued c (nextHead rest).2 s t)
      ∧ (s.dlc.state.live = false →
          t.dlc = { s.dlc with undelivered := 0 } ∧ t.hlm = left
          ∧ issued c (.recordOffer (.dockEvent .itemsDropped s.dlc.state (min 255 (s.dlc.undelivered + 1))
              (s.partTime.setWidth 16)) :: (nextHead rest).2) s t)

/-- RESTART_PORT of DOCK is refused with BAD_STATE in ABSENT and UNPOWERED, and elsewhere abandons the exchange, counts a
riding item's offer and enters ATTACHING again, with the deliveries of that entry; an item given up at its eighth offer is
reported by ITEMS_DROPPED (R25, R27, R29, R32, R33). The rest of the queue, the undelivered count, the held keys and buttons
and all else of the dock link are kept (R29), and an answer that has begun stays on the wire to be ignored (R28, log 6).
CLEAR of DOCK_ERROR empties the last-error record (R34). -/
def Obligations.DockRequests : Prop :=
  ∀ (tag : Byte) (s : State),
    let restart : Instr := .restartPortDock tag
    let clear : Instr := .clearDockError tag
    (s.dlc.state.live = false →
      ∃ t, exec restart s = .next t ∧ replied restart tag 0x0C .badState 0xFF [] (s.took restart) t)
    ∧ (s.dlc.state.live = true →
      ∃ t u, exec restart s = .next t ∧ replied restart tag 0x0C .ok 0xFF [] u t ∧ kept [.dlc] s u
        ∧ (let given : Bool := s.exchanging Exchange.riding && s.dlc.queue.head?.any fun i => 7 ≤ i.offers
           u.dlc = { s.dlc with
             state := .attaching, exchange := none, stray := s.dlc.stray || s.exchanging Exchange.answering
             queue := if s.exchanging Exchange.riding then afterUnconsumed s.dlc.queue else s.dlc.queue
             undelivered := if given then 0 else s.dlc.undelivered
             statusSeen := false, announced := false, idMatch := .unknown, identity := none, missStreak := 0
             draw := s.dlc.defaultDraw
             attachTimer := .running (s.partTime + BitVec.ofNat 32 s.dlc.attachTimeout)
             pollTimer := .running (s.partTime + BitVec.ofNat 32 s.dlc.pollPeriod) }
           ∧ issued restart
             ((if given then [.dockRoomNotice] else [])
               ++ (if s.dlc.state = .attaching then []
                   else [.haeDockStateDelivery .attaching, .pclDockStateDelivery .attaching])
               ++ (if s.dlc.defaultDraw = s.dlc.draw then [] else [.drawDelivery s.dlc.defaultDraw])
               ++ (if given then [.recordOffer (.dockEvent .itemsDropped .attaching
                   (min 255 (s.dlc.undelivered + 1)) (s.partTime.setWidth 16))] else [])) s u))
    ∧ (∃ t, exec clear s = .next t
      ∧ replied clear tag 0x0B .ok 0xFF [] ((s.took clear).setDlc { s.dlc with lastError := none }) t)

/-! ### The hinge engine (chapter 3) -/

/-- The direction of a vector turns by 1440 with the vector, is 0 along +u, and does not depend on the vector's length;
the circular difference is the one value of −2879..2880 that brings one direction to the other (R53, 0.5). A direction
never falls as a vector turns through the first quadrant, the vectors of R53's table have its values, and vectors just below
and just above a half unit are rounded down and up (R53).
A filter step adds the difference divided by 2^k and rounded toward zero. It stays between the filtered value and the
sample, leaves a value equal to the sample alone, and with a shift of 0 takes the sample; so a filtered value never leaves
the sample range (R44).
The tracked hinge is set by the first row of R55 that applies: under FRONT_HALL the raw hinge up to 2880 and otherwise 0,
under REAR_HALL the raw hinge from 2880 on and otherwise 5760, from UNKNOWN the raw hinge, and otherwise the circular
difference to the raw hinge is added, and it stops at 0 and 5760. -/
def Obligations.HingeArithmetic : Prop :=
  ((∀ u v : Int, u ≠ 0 ∨ v ≠ 0 → direction (-v) u = (direction u v + 1440) % 5760)
   ∧ (∀ u v k : Int, u ≠ 0 ∨ v ≠ 0 → 0 < k → direction (k * u) (k * v) = direction u v)
   ∧ (∀ u : Int, 0 < u → direction u 0 = 0)
   ∧ (∀ a b : Nat, -2879 ≤ circDiff a b ∧ circDiff a b ≤ 2880 ∧ ((a : Int) + circDiff a b - b) % 5760 = 0)
   ∧ (∀ a b : Nat, circDist a b = circDist b a)
   ∧ (∀ u v u' v' : Int, 0 < u → 0 ≤ v → 0 < u' → 0 ≤ v' → v * u' ≤ v' * u → direction u v ≤ direction u' v')
   ∧ ([(4096, 0), (0, 4096), (-4096, 0), (0, -4096), (2896, 2896), (3849, 1401)].map fun w : Int × Int =>
       direction w.1 w.2) = [0, 1440, 2880, 4320, 720, 320]
   ∧ ([(27502, 15), (23835, 13), (27502, 45), (7945, 13), (32503, 1579), (18382, 893), (13780, 5007), (25317, 9199),
       (16981, 10317), (26794, 16279), (11924, 11911), (27517, 27487), (6108, 11749), (17003, 32706), (13, 23835),
       (15, 27502), (32767, -10), (32767, -20), (-32768, 10)].map fun w : Int × Int => direction w.1 w.2)
      = [0, 1, 1, 2, 44, 45, 319, 320, 500, 501, 719, 720, 1000, 1001, 1439, 1440, 0, 5759, 2880])
  ∧ (∀ (k : Nat) (f v : Int),
       (f ≤ v → f ≤ filterAxis k f v ∧ filterAxis k f v ≤ v) ∧ (v ≤ f → v ≤ filterAxis k f v ∧ filterAxis k f v ≤ f)
       ∧ filterAxis 0 f v = v
       ∧ (f ≤ v → filterAxis k f v = f + (v - f) / 2 ^ k) ∧ (v ≤ f → filterAxis k f v = f - (f - v) / 2 ^ k)
       ∧ (inSample f = true → inSample v = true → inSample (filterAxis k f v) = true))
  ∧ ((∀ t r : Nat, (moveTracked t r : Int) = max 0 (min 5760 (t + circDiff (t % 5760) r)))
     ∧ (∀ (h : Hae) (r : Nat), h.front = true →
         track h r = hallRow .front r ∧ hallRow .front r = (if r ≤ 2880 then r else 0) ∧ track h r ≤ 2880)
     ∧ (∀ (h : Hae) (r : Nat), h.front = false → h.rear = true →
         track h r = hallRow .rear r ∧ hallRow .rear r = (if 2880 ≤ r then r else 5760) ∧ 2880 ≤ track h r)
     ∧ (∀ (h : Hae) (r : Nat), h.front = false → h.rear = false → h.tracked = none → track h r = r)
     ∧ (∀ (h : Hae) (r t : Nat), h.front = false → h.rear = false → h.tracked = some t →
         track h r = moveTracked t r))

/-- The quality is decided by the first of the tests of R49 that applies, in order. -/
def Obligations.QualityDecided : Prop :=
  ∀ s : State,
    let noBase := s.hae.dock = .absent ∨ s.hae.dock = .unpowered ∨ s.hae.base = none
    let stale := s.lidFresh = false ∨ s.baseFresh = false ∨ s.hae.port = .stalled
    let flat := projects s.hae.projectionMin s.hae.lid = false ∨ projects s.hae.projectionMin s.hae.base = false
    let conflict := s.hae.front = true ∧ s.hae.rear = true
    let moving := s.hae.lidMoving = true ∨ s.hae.baseMoving = true
    (decideQuality s = .noBase ↔ noBase)
    ∧ (decideQuality s = .stale ↔ ¬ noBase ∧ stale)
    ∧ (decideQuality s = .axisVertical ↔ ¬ noBase ∧ ¬ stale ∧ flat)
    ∧ (decideQuality s = .hallConflict ↔ ¬ noBase ∧ ¬ stale ∧ ¬ flat ∧ conflict)
    ∧ (decideQuality s = .moving ↔ ¬ noBase ∧ ¬ stale ∧ ¬ flat ∧ ¬ conflict ∧ moving)
    ∧ (decideQuality s = .good ↔ ¬ noBase ∧ ¬ stale ∧ ¬ flat ∧ ¬ conflict ∧ ¬ moving)
    ∧ decideQuality s ≠ .noData

/-- A sample delivered to the hinge engine steps its sensor's filter and restarts its freshness timer, then decides the
quality, does the hinge work which that quality calls for, re-evaluates the base face and the reported hinge, and delivers
what has changed (R44, R46 to R50, R54 to R56, R59 to R62). The timer runs from the part time of the computation (log 27),
and the deliveries wait in flight in this order (log 2). The other sensor's vector, timer and moving flag, the recorded
inputs and the parameters are kept.
The values these are made of are those of their rules: the filter step, which a cleared vector takes from the sample (R44),
the motion test (R46), freshness (R47), the first two tests of R49, the projection test (R52), the raw hinge (R54), the anchor (R58), the reported
hinge (R59) and the base face (R60). -/
def Obligations.HingeComputation : Prop :=
  (∀ (p : Sample) (s : State),
    ∃ t, exec (.computation p) s = .next t ∧ kept [.hae] s t
      ∧ t.hae = { s.hae with
          lid := t.hae.lid, base := t.hae.base, lidTimer := t.hae.lidTimer, baseTimer := t.hae.baseTimer
          lidMoving := t.hae.lidMoving, baseMoving := t.hae.baseMoving, quality := t.hae.quality, raw := t.hae.raw
          tracked := t.hae.tracked, reported := t.hae.reported, face := t.hae.face }
      ∧ t.hae.quality = decideQuality t
      ∧ (p.sensor = .lid →
          t.hae.lid = some (filterStep s.hae.filterShift s.hae.lid p) ∧ t.hae.base = s.hae.base
          ∧ t.hae.lidMoving = isMoving s.hae.motionThreshold s.hae.lid p.v
          ∧ t.hae.lidTimer = .running (s.partTime + BitVec.ofNat 32 (3 * s.lsp.samplePeriod))
          ∧ t.hae.baseMoving = s.hae.baseMoving ∧ t.hae.baseTimer = s.hae.baseTimer)
      ∧ (p.sensor = .base →
          t.hae.base = some (filterStep s.hae.filterShift s.hae.base p) ∧ t.hae.lid = s.hae.lid
          ∧ t.hae.baseMoving = isMoving s.hae.motionThreshold s.hae.base p.v
          ∧ t.hae.baseTimer = .running (s.partTime + BitVec.ofNat 32 (3 * s.dlc.pollPeriod))
          ∧ t.hae.lidMoving = s.hae.lidMoving ∧ t.hae.lidTimer = s.hae.lidTimer)
      ∧ (t.hae.quality = .noBase → t.hae.raw = none ∧ t.hae.tracked = none ∧ t.hae.reported = none)
      ∧ (t.hae.quality = .stale ∨ t.hae.quality = .axisVertical →
          t.hae.raw = s.hae.raw ∧ t.hae.tracked = s.hae.tracked)
      ∧ (t.hae.quality = .hallConflict → t.hae.raw = some (rawHinge t.hae) ∧ t.hae.tracked = s.hae.tracked)
      ∧ (t.hae.quality = .good ∨ t.hae.quality = .moving →
          t.hae.raw = some (rawHinge t.hae) ∧ t.hae.tracked = some (track s.hae (rawHinge t.hae)))
      ∧ t.hae.reported = reportHinge s.hae.hingeDeadband t.hae.tracked s.hae.reported
      ∧ t.hae.face = baseFace t.baseFresh s.hae.faceT t.hae.base
      ∧ issued (.computation p)
        ((match p.sensor, t.hae.lid with
          | .lid, some f => .lidVectorDelivery f.v
              :: if t.hae.lidMoving then [.lidMotionOccurrence s.hae.motionIsActivity] else []
          | _, _ => [])
          ++ (if t.hae.reported = s.hae.reported ∧ t.hae.quality = s.hae.quality ∧ t.hae.face = s.hae.face then []
              else [.hingeDelivery t.hae.reported t.hae.quality t.hae.face])
          ++ (if t.hae.reported = s.hae.reported ∧ t.hae.quality = s.hae.quality then []
              else [.recordOffer (.hinge t.hae.reported t.hae.quality t.hae.raw (s.partTime.setWidth 16))])) s t)
  ∧ (∀ (k : Nat) (p : Sample), filterStep k none p = ⟨p.v, p.time⟩
     ∧ ∀ f : Filtered, filterStep k (some f) p
         = ⟨⟨filterAxis k f.v.x p.v.x, filterAxis k f.v.y p.v.y, filterAxis k f.v.z p.v.z⟩, p.time⟩)
  ∧ (∀ (limit : Nat) (v : Vec3), isMoving limit none v = false
     ∧ ∀ f : Filtered, isMoving limit (some f) v = true
         ↔ (limit : Int) < |v.x - f.v.x| ∨ (limit : Int) < |v.y - f.v.y| ∨ (limit : Int) < |v.z - f.v.z|)
  ∧ (∀ s : State,
     let age (f : Filtered) : Int := ((s.partTime.toNat : Int) - f.updated.toNat) % 2 ^ 32
     (s.lidFresh = true ↔ ∃ f, s.hae.lid = some f ∧ age f ≤ 3 * s.lsp.samplePeriod)
     ∧ (s.baseFresh = true ↔ ∃ f, s.hae.base = some f ∧ age f ≤ 3 * s.dlc.pollPeriod))
  ∧ (∀ s : State,
     (s.noBase = true ↔ s.hae.dock = .absent ∨ s.hae.dock = .unpowered ∨ s.hae.base = none)
     ∧ (s.isStale = true ↔ s.lidFresh = false ∨ s.baseFresh = false ∨ s.hae.port = .stalled))
  ∧ (∀ m : Nat, projects m none = false
     ∧ ∀ f : Filtered, projects m (some f) = true ↔ (m : Int) * m ≤ f.v.y * f.v.y + f.v.z * f.v.z)
  ∧ (∀ (h : Hae) (l b : Filtered), h.lid = some l → h.base = some b →
     (rawHinge h : Int) = ((direction l.v.y l.v.z : Int) - direction b.v.y b.v.z + 2880 + h.hingeCal) % 5760)
  ∧ (anchor .front none = some 0 ∧ anchor .rear none = some 5760
     ∧ ∀ t : Nat, anchor .front (some t) = some (if t ≤ 2880 then t else 0)
         ∧ anchor .rear (some t) = some (if 2880 ≤ t then t else 5760))
  ∧ (∀ (d : Nat) (old : Option Nat), reportHinge d none old = none
     ∧ ∀ t : Nat, reportHinge d (some t) none = some t
         ∧ ∀ r : Nat, reportHinge d (some t) (some r)
           = some (if (d : Int) ≤ |(t : Int) - r| ∨ t = 0 ∨ t = 5760 then t else r))
  ∧ (∀ faceT : Nat, (∀ fresh : Bool, baseFace fresh faceT none = .unknown)
     ∧ ∀ f : Filtered, baseFace false faceT (some f) = .unknown
         ∧ (f.v.z ≥ faceT → baseFace true faceT (some f) = .up)
         ∧ (f.v.z < faceT → f.v.z ≤ -(faceT : Int) → baseFace true faceT (some f) = .down)
         ∧ (f.v.z < faceT → -(faceT : Int) < f.v.z → baseFace true faceT (some f) = .edge))

/-- The five events that make a review decide NO_BASE or STALE where it holds, and otherwise keep the quality; NO_BASE
clears the hinge. The clear of the lid filter gives the rotation unit "no vector", and every review delivers what it has
changed to the classifier and the UFE (R45, R47, R51, R61, R62); the deliveries wait in flight in this order (log 2).
A freshness timer that is due while its vector is still fresh restarts and does no more, and its next expiry is the first
millisecond past three periods (R47, log 14). -/
def Obligations.HingeReviews : Prop :=
  (∀ (c : Instr) (s : State),
     let event : Option Hae := match c with
       | .lidFilterClear => some { s.hae with lid := none, lidMoving := false, lidTimer := .cancelled }
       | .baseInvalidation => some { s.hae with base := none, baseMoving := false, baseTimer := .cancelled }
       | .portStateDelivery st => some { s.hae with port := st }
       | .haeDockStateDelivery st => some { s.hae with dock := st }
       | .freshnessTimerExpiry .lid =>
         if s.hae.lidTimer.due s.partTime = true ∧ s.lidFresh = false then some { s.hae with lidTimer := .cancelled } else none
       | .freshnessTimerExpiry .base =>
         if s.hae.baseTimer.due s.partTime = true ∧ s.baseFresh = false then some { s.hae with baseTimer := .cancelled } else none
       | _ => none
     ∀ h, event = some h →
       ∃ t, exec c s = .next t ∧ kept [.hae] s t
         ∧ t.hae = { h with
             quality := t.hae.quality, raw := t.hae.raw, tracked := t.hae.tracked, reported := t.hae.reported
             face := t.hae.face }
         ∧ t.hae.quality = (if t.noBase then .noBase else if t.isStale then .stale else s.hae.quality)
         ∧ t.hae.raw = (if t.noBase then none else s.hae.raw)
         ∧ t.hae.tracked = (if t.noBase then none else s.hae.tracked)
         ∧ t.hae.reported = reportHinge s.hae.hingeDeadband t.hae.tracked s.hae.reported
         ∧ t.hae.face = baseFace t.baseFresh s.hae.faceT t.hae.base
         ∧ t.inflight = (match c with | .freshnessTimerExpiry _ => s.inflight | _ => s.inflight.erase c)
           ++ (match c with | .lidFilterClear => [.noVector] | _ => [])
           ++ (if t.hae.reported = s.hae.reported ∧ t.hae.quality = s.hae.quality ∧ t.hae.face = s.hae.face then []
               else [.hingeDelivery t.hae.reported t.hae.quality t.hae.face])
           ++ (if t.hae.reported = s.hae.reported ∧ t.hae.quality = s.hae.quality then []
               else [.recordOffer (.hinge t.hae.reported t.hae.quality t.hae.raw (s.partTime.setWidth 16))]))
  ∧ (∀ (f : Filtered) (s : State),
       (s.hae.lid = some f → s.hae.lidTimer.due s.partTime = true → s.lidFresh = true →
         exec (.freshnessTimerExpiry .lid) s = .next (s.setHae { s.hae with
           lidTimer := .running (f.updated + BitVec.ofNat 32 (3 * s.lsp.samplePeriod + 1)) }))
       ∧ (s.hae.base = some f → s.hae.baseTimer.due s.partTime = true → s.baseFresh = true →
         exec (.freshnessTimerExpiry .base) s = .next (s.setHae { s.hae with
           baseTimer := .running (f.updated + BitVec.ofNat 32 (3 * s.dlc.pollPeriod + 1)) })))

/-- A hall event records its level. Both halls asserted under GOOD or MOVING is a HALL_CONFLICT. An assertion alone
anchors the tracked hinge under STALE and AXIS_VERTICAL, and restricts it to its half of the circle under GOOD and
MOVING; a clear, and any event without a base, moves nothing (R57, R58). What has changed is delivered to the classifier and
the UFE (R61), and waits in flight in this order (log 2). -/
def Obligations.HallEvents : Prop :=
  ∀ (hall : Hall) (asserted : Bool) (time : PartTime) (s : State),
    let h := s.hae.recordHall hall asserted
    let both := h.front = true ∧ h.rear = true
    ∃ t, exec (.haeHallEvent hall asserted time) s = .next t ∧ kept [.hae] s t
      ∧ t.hae = { h with quality := t.hae.quality, tracked := t.hae.tracked, reported := t.hae.reported }
      ∧ t.hae.reported = reportHinge s.hae.hingeDeadband t.hae.tracked s.hae.reported
      ∧ t.hae.quality = (if s.noBase = false ∧ both ∧ (s.hae.quality = .good ∨ s.hae.quality = .moving)
          then .hallConflict else s.hae.quality)
      ∧ (s.noBase = true ∨ both ∨ asserted = false → t.hae.tracked = s.hae.tracked)
      ∧ (s.noBase = false → ¬ both → asserted = true →
          (s.hae.quality = .stale ∨ s.hae.quality = .axisVertical → t.hae.tracked = anchor hall s.hae.tracked)
          ∧ (∀ r, s.hae.raw = some r →
            s.hae.quality = .good ∨ s.hae.quality = .moving ∨ s.hae.quality = .hallConflict →
            t.hae.tracked = some (hallRow hall r)))
      ∧ issued (.haeHallEvent hall asserted time)
        ((if t.hae.reported = s.hae.reported ∧ t.hae.quality = s.hae.quality then []
            else [.hingeDelivery t.hae.reported t.hae.quality t.hae.face])
          ++ (if t.hae.reported = s.hae.reported ∧ t.hae.quality = s.hae.quality then []
              else [.recordOffer (.hinge t.hae.reported t.hae.quality t.hae.raw (s.partTime.setWidth 16))])) s t

/-! ### Rotation (chapter 4) -/

/-- A lid vector is disregarded under the lock or a policy other than FREE. Otherwise a vector below ROT_MIN cancels the
candidate, and one that passes sets the rotation angle and acts on the candidate: none found cancels it, the same one
waits on, and a new one starts the dwell or, under a dwell of 0, is accepted at once (R67 to R71).
The candidate of a decision is a state other than the current one whose centre, a multiple of 1440 AU, lies within 720 AU less the hysteresis
of the rotation angle. One that qualifies is found, unless hysteresis is 0 and the angle lies midway to another one, where
the one 720 AU above the angle is (R69). -/
def Obligations.RotationDecided : Prop :=
  (∀ (v : Vec3) (s : State),
     let c : Instr := .lidVectorDelivery v
     let deciding := s.rot.lock = false ∧ s.rot.policy = .free
     let tilted := (s.rot.rotMin : Int) ^ 2 ≤ v.x ^ 2 + v.y ^ 2
     let rho := direction v.y v.x
     let found := selectCandidate s.rot.rot rho s.rot.rotHyst
     ∃ t, exec c s = .next t ∧ kept [.rot] s t
       ∧ (¬ deciding → t.rot = s.rot ∧ issued c [] s t)
       ∧ (deciding → ¬ tilted →
           t.rot = { s.rot with candidate := none, timer := .cancelled, angle := none } ∧ issued c [] s t)
       ∧ (deciding → tilted → found = none →
           t.rot = { s.rot with candidate := none, timer := .cancelled, angle := some rho } ∧ issued c [] s t)
       ∧ (∀ k, deciding → tilted → found = some k → s.rot.candidate = some k →
           t.rot = { s.rot with angle := some rho } ∧ issued c [] s t)
       ∧ (∀ k, deciding → tilted → found = some k → s.rot.candidate ≠ some k → s.rot.rotDwell ≠ 0 →
           t.rot = { s.rot with
             candidate := some k, angle := some rho
             timer := .running (s.partTime + BitVec.ofNat 32 s.rot.rotDwell) }
           ∧ issued c [] s t)
       ∧ (∀ k, deciding → tilted → found = some k → s.rot.candidate ≠ some k → s.rot.rotDwell = 0 →
           t.rot = { s.rot with candidate := none, timer := .cancelled, angle := some rho, rot := k }
           ∧ issued c [.recordOffer (.rotation s.rot.rot k .dwell (s.partTime.setWidth 16)), .rotationOccurrence] s t))
  ∧ (∀ (current k : Rot) (rho hyst : Nat), rho < 5760 →
       (selectCandidate current rho hyst = some k → k ≠ current ∧ circDist rho k.centre + hyst ≤ 720)
       ∧ (k ≠ current → circDist rho k.centre + hyst ≤ 720 →
         selectCandidate current rho hyst = some k
         ∨ hyst = 0 ∧ circDist rho k.centre = 720
           ∧ ∃ k', selectCandidate current rho hyst = some k' ∧ k'.centre = (rho + 720) % 5760))
  ∧ [Rot.rot0, .rot90, .rot180, .rot270].map Rot.centre = [0, 1440, 2880, 4320]

/-- The dwell's expiry, when it is due, accepts the candidate. HOLD and FORCE_ROT_0 cancel it, and FORCE_ROT_0 with the acceptance mark
sets ROT_0, with a record when that is a change. The lock cancels it when set on, and "no vector" clears it with the
rotation angle (R71 to R74). -/
def Obligations.RotationEvents : Prop :=
  ∀ s : State,
    let ts := s.partTime.setWidth 16
    let cancelled : RotUnit := { s.rot with candidate := none, timer := .cancelled }
    (∀ k, s.rot.timer.due s.partTime = true → s.rot.candidate = some k →
      exec .rotationDwellExpiry s = .next
        ((s.setRot { cancelled with rot := k }).emits
          [.recordOffer (.rotation s.rot.rot k .dwell ts), .rotationOccurrence]))
    ∧ exec .noVector s = .next ((s.took .noVector).setRot { cancelled with angle := none })
    ∧ (∀ acceptance, exec (.policyDelivery .free acceptance) s =
        .next ((s.took (.policyDelivery .free acceptance)).setRot { s.rot with policy := .free }))
    ∧ (∀ acceptance, exec (.policyDelivery .hold acceptance) s =
        .next ((s.took (.policyDelivery .hold acceptance)).setRot { cancelled with policy := .hold }))
    ∧ exec (.policyDelivery .forceRot0 false) s =
        .next ((s.took (.policyDelivery .forceRot0 false)).setRot { cancelled with policy := .forceRot0 })
    ∧ exec (.policyDelivery .forceRot0 true) s =
        .next (((s.took (.policyDelivery .forceRot0 true)).setRot
            { cancelled with policy := .forceRot0, rot := .rot0 }).emits
          (if s.rot.rot = .rot0 then [] else [.recordOffer (.rotation s.rot.rot .rot0 .forced ts)]))
    ∧ (∀ tag lock, let c : Instr := .setRotationLock tag lock
        ∃ t, exec c s = .next t
          ∧ (lock = 1 → replied c tag 0x09 .ok 0xFF [] ((s.took c).setRot { cancelled with lock := true }) t)
          ∧ (lock = 0 → replied c tag 0x09 .ok 0xFF [] ((s.took c).setRot { s.rot with lock := false }) t)
          ∧ (lock ≠ 0 → lock ≠ 1 → replied c tag 0x09 .badRequest 0xFF [] (s.took c) t))

/-! ### Postures (chapter 5) -/

/-- A row matches when it is in use and each condition that it carries is met; the matched row is the first that matches
(R80, R83).
An evaluation works on the recorded inputs and the active bank. With no matched row it acts by R84, with one of the current
posture by R85, and with any other by R86; every case that finds a matched row clears NO_MATCH (R83). -/
def Obligations.RowsMatched : Prop :=
  (∀ (p : Pcl) (r : PostureRow), rowMatches p r = true ↔
    r.inUse = true
    ∧ (∀ lo hi, r.hinge = some (lo, hi) → ∃ h, p.hinge = some h ∧ lo ≤ h ∧ h ≤ hi)
    ∧ (r.needGood = true → p.quality = .good)
    ∧ (r.dock = some .attached → p.dock = .attached) ∧ (r.dock = some .notAttached → p.dock ≠ .attached)
    ∧ (∀ a, r.front = some a → p.front = a) ∧ (∀ a, r.rear = some a → p.rear = a)
    ∧ (∀ f, r.face = some f → p.face = f))
  ∧ (∀ (p : Pcl) (i : Nat), matchedRow p = some i ↔
    i < p.active.length ∧ rowMatches p (p.rowAt i) = true ∧ ∀ j < i, rowMatches p (p.rowAt j) = false)
  ∧ (∀ s : State,
    let found := s.setPcl { s.pcl with noMatch := false }
    (∀ i r, s.pcl.active[i]? = some r → s.pcl.rowAt i = r)
    ∧ (matchedRow s.pcl = none →
        evaluate s = s.setPcl { s.pcl with candidate := none, timer := .cancelled, noMatch := true })
    ∧ (∀ i, matchedRow s.pcl = some i →
        (evaluate s).pcl.noMatch = false
        ∧ (s.pcl.posture = some (s.pcl.rowAt i).posture → evaluate s = samePosture i found)
        ∧ (s.pcl.posture ≠ some (s.pcl.rowAt i).posture → evaluate s = candidateCase i found)))

/-- Each input of the classifier is recorded and evaluated. No match cancels the candidate and sets NO_MATCH. A match of
the current posture cancels it, and a change of row publishes each output that differs. A match of another posture becomes
the candidate: a candidate of the same posture keeps its timer, also where the row's dwell is 0 (log 34), and any other
starts the dwell, or is accepted at once under a dwell of 0, with the deliveries of an acceptance (R79, R83 to R89). The
deliveries wait in flight in this order (log 2); that the key gate comes before the pointer gate where the current posture
stays is the model's choice (log 39). -/
def Obligations.InputsEvaluated : Prop :=
  ∀ (c : Instr) (time : PartTime) (p : Pcl) (s : State),
    ((∃ h q f, c = .hingeDelivery h q f ∧ p = { s.pcl with hinge := h, quality := q, face := f })
      ∨ (∃ st, c = .pclDockStateDelivery st ∧ p = { s.pcl with dock := st })
      ∨ (∃ a, c = .pclHallEvent .front a time ∧ p = { s.pcl with front := a })
      ∨ (∃ a, c = .pclHallEvent .rear a time ∧ p = { s.pcl with rear := a })) →
    ∃ t, exec c s = .next t ∧ kept [.pcl] s t ∧ t = evaluate ((s.took c).setPcl p)
      ∧ (matchedRow p = none →
          t.pcl = { p with candidate := none, timer := .cancelled, noMatch := true } ∧ issued c [] s t)
      ∧ (∀ i, matchedRow p = some i → p.posture = some (p.rowAt i).posture →
          let old := p.published
          let new := (p.rowAt i).out
          (p.row = some i →
            t.pcl = { p with candidate := none, timer := .cancelled, noMatch := false } ∧ issued c [] s t)
          ∧ (p.row ≠ some i →
            t.pcl = { p with
              candidate := none, timer := .cancelled, noMatch := false, row := some i, published := new }
            ∧ issued c
              ((if old.keyGate = new.keyGate then [] else [.gateDelivery .key new.keyGate])
                ++ (if old.pointerGate = new.pointerGate then [] else [.gateDelivery .pointer new.pointerGate])
                ++ (if old.policy = new.policy then [] else [.policyDelivery new.policy false])
                ++ (if old.allowance = new.allowance then [] else [.allowanceDelivery new.allowance])
                ++ (if old.sleep = new.sleep then [] else [.sleepClassChange new.sleep])) s t))
      ∧ (∀ i, matchedRow p = some i → p.posture ≠ some (p.rowAt i).posture →
          (∀ j, p.candidate = some j → (p.rowAt j).posture = (p.rowAt i).posture →
            t.pcl = { p with candidate := some i, noMatch := false } ∧ issued c [] s t)
          ∧ ((∀ j, p.candidate = some j → (p.rowAt j).posture ≠ (p.rowAt i).posture) → (p.rowAt i).dwell ≠ 0 →
            t.pcl = { p with
              candidate := some i, noMatch := false
              timer := .running (s.partTime + BitVec.ofNat 32 (p.rowAt i).dwell) }
            ∧ issued c [] s t)
          ∧ ((∀ j, p.candidate = some j → (p.rowAt j).posture ≠ (p.rowAt i).posture) → (p.rowAt i).dwell = 0 →
            let row := p.rowAt i
            let old := p.published
            t.pcl = { p with
              candidate := none, timer := .cancelled, noMatch := false, row := some i
              posture := some row.posture, published := row.out }
            ∧ issued c
              ([.recordOffer (.posture p.posture row.posture i p.hinge p.dock (s.partTime.setWidth 16))]
                ++ (if old.keyGate = row.out.keyGate then [] else [.gateDelivery .key row.out.keyGate])
                ++ (if old.pointerGate = row.out.pointerGate then [] else [.gateDelivery .pointer row.out.pointerGate])
                ++ [.policyDelivery row.out.policy true]
                ++ (if old.allowance = row.out.allowance then [] else [.allowanceDelivery row.out.allowance])
                ++ (match p.posture with | some q => [.triggerDelivery (.postureLeave q)] | none => [])
                ++ [.triggerDelivery (.postureEnter row.posture), .acceptanceNotice old.sleep row.out.sleep]) s t))

/-- The posture dwell's expiry, when it is due, accepts the candidate row: it becomes the current row and posture, and the record, the
gates that change, the policy with the acceptance mark, the allowance if it changes, the leave and enter triggers and the
acceptance notice follow in this order (R87, R88). -/
def Obligations.PostureAccepted : Prop :=
  ∀ (i : Nat) (s : State), s.pcl.timer.due s.partTime = true → s.pcl.candidate = some i →
    let row := s.pcl.rowAt i
    let old := s.pcl.published
    ∃ t, exec .postureDwellExpiry s = .next t ∧ kept [.pcl] s t
      ∧ t.pcl = { s.pcl with
          candidate := none, timer := .cancelled, posture := some row.posture, row := some i, published := row.out }
      ∧ t.inflight = s.inflight
        ++ [.recordOffer (.posture s.pcl.posture row.posture i s.pcl.hinge s.pcl.dock (s.partTime.setWidth 16))]
        ++ (if old.keyGate = row.out.keyGate then [] else [.gateDelivery .key row.out.keyGate])
        ++ (if old.pointerGate = row.out.pointerGate then [] else [.gateDelivery .pointer row.out.pointerGate])
        ++ [.policyDelivery row.out.policy true]
        ++ (if old.allowance = row.out.allowance then [] else [.allowanceDelivery row.out.allowance])
        ++ (match s.pcl.posture with | some q => [.triggerDelivery (.postureLeave q)] | none => [])
        ++ [.triggerDelivery (.postureEnter row.posture), .acceptanceNotice old.sleep row.out.sleep]

/-- COMMIT of POSTURE is refused with BAD_STATE while no pending row is in use; else the pending bank becomes active, the
candidate is cancelled, the current row becomes the lowest-numbered row in use of the current posture, or none, its outputs
or the fallback outputs are published, each that differs with its delivery, and an evaluation is made (R89 to R91). CLEAR of
NO_MATCH clears the flag (R93). The deliveries wait in flight in this order (log 2); that the key gate comes before
the pointer gate is the model's choice (log 39). -/
def Obligations.PostureRequests : Prop :=
  ∀ (tag : Byte) (s : State),
    let commit : Instr := .commitPosture tag
    let clear : Instr := .clearNoMatch tag
    let names (i : Nat) : Prop :=
      ∃ row, s.pcl.pending[i]? = some row ∧ row.inUse = true ∧ s.pcl.posture = some row.posture
    ((∀ r ∈ s.pcl.pending, r.inUse = false) →
      ∃ t, exec commit s = .next t ∧ replied commit tag 0x07 .badState 0xFF [] (s.took commit) t)
    ∧ ((∃ r ∈ s.pcl.pending, r.inUse = true) →
      ∃ t u row, exec commit s = .next t ∧ replied commit tag 0x07 .ok 0xFF [] u t ∧ kept [.pcl] s u
        ∧ (∀ i, row = some i ↔ names i ∧ ∀ j < i, ¬ names j)
        ∧ (let old := s.pcl.published
           let new : Outputs := ((row.bind fun i => s.pcl.pending[i]?).map PostureRow.out).getD
             ⟨.pass, .pass, .free, .allow, .none⟩
           u = evaluate (((s.took commit).setPcl { s.pcl with
               active := s.pcl.pending, candidate := none, timer := .cancelled, row := row, published := new }).emits
             ((if old.keyGate = new.keyGate then [] else [.gateDelivery .key new.keyGate])
               ++ (if old.pointerGate = new.pointerGate then [] else [.gateDelivery .pointer new.pointerGate])
               ++ (if old.policy = new.policy then [] else [.policyDelivery new.policy false])
               ++ (if old.allowance = new.allowance then [] else [.allowanceDelivery new.allowance])
               ++ (if old.sleep = new.sleep then [] else [.sleepClassChange new.sleep]))))
        ∧ u.pcl.active = s.pcl.pending ∧ u.pcl.pending = s.pcl.pending
        ∧ u.pcl.published = (match u.pcl.row with
          | some i => (u.pcl.rowAt i).out
          | none => ⟨.pass, .pass, .free, .allow, .none⟩)
        ∧ u.pcl.hinge = s.pcl.hinge ∧ u.pcl.dock = s.pcl.dock ∧ u.pcl.front = s.pcl.front
        ∧ u.pcl.rear = s.pcl.rear ∧ u.pcl.face = s.pcl.face ∧ u.pcl.quality = s.pcl.quality)
    ∧ (∃ t, exec clear s = .next t
      ∧ replied clear tag 0x0B .ok 0xFF [] ((s.took clear).setPcl { s.pcl with noMatch := false }) t)

/-! ### Action lines and supply (chapters 6 and 7) -/

/-- A trigger fires every armed TRIGGERED line that names it, and no other: the line takes its staged level, and ONCE
disarms it. A changed level of AL0 goes to the dock link (R104, R101).
SET_LINE drives a DIRECT line at once, and stages and arms a TRIGGERED one; a level other than 0 and 1 is refused
before a line above 3 is (R105, R176). -/
def Obligations.LinesDriven : Prop :=
  (∀ (trigger : Trigger) (s : State),
     let c : Instr := .triggerDelivery trigger
     ∃ t, exec c s = .next t ∧ kept [.alu] s t
       ∧ (∀ i < 4, let l := s.alu.get i
           t.alu.get i =
             if l.mode = .triggered ∧ l.armed = true ∧ l.trigger = trigger then
               { l with level := l.staged, armed := l.rearm = .every }
             else l)
       ∧ issued c (if t.alu.al0.level = s.alu.al0.level then [] else [.al0LevelDelivery t.alu.al0.level]) s t)
  ∧ (∀ (tag line level : Byte) (s : State),
       let c : Instr := .setLine tag line level
       ∃ t, exec c s = .next t
         ∧ (level ≠ 0 → level ≠ 1 → replied c tag 0x0A .badRequest 0xFF [] (s.took c) t)
         ∧ (level = 0 ∨ level = 1 → 4 ≤ line.toNat → replied c tag 0x0A .badIndex 0xFF [] (s.took c) t)
         ∧ (level = 0 ∨ level = 1 → line.toNat < 4 →
             let l := s.alu.get line.toNat
             ∃ u, replied c tag 0x0A .ok 0xFF [] u t ∧ kept [.alu] s u
               ∧ u.alu = s.alu.put line.toNat
                   (match l.mode with
                     | .direct => { l with level := decide (level = 1) }
                     | .triggered => { l with staged := decide (level = 1), armed := true })
               ∧ issued c (if u.alu.al0.level = s.alu.al0.level then [] else [.al0LevelDelivery u.alu.al0.level]) s u))

/-- A draw or an allowance is recorded, and the budget, the two ceilings and the pause are recomputed; the charger is told
when the allowance, the duty ceiling or the pause has changed (R111 to R114, R116).
After a draw and an allowance, taken in either order, the budget and both ceilings are the same (R117). -/
def Obligations.SupplyRecomputed : Prop :=
  (∀ (c : Instr) (draw : Nat) (al : Allowance) (s : State),
     (c = .drawDelivery draw ∧ al = s.ssu.allowance ∨ c = .allowanceDelivery al ∧ draw = s.ssu.draw) →
     let budget := s.ssu.railLimit - s.ssu.railReserve - draw
     let ceiling := match al with | .allow => budget | .reduced => budget / 2 | .deny => 0
     let pause := if al = .deny then s.ssu.budgetPause
       else if ceiling < s.ssu.coilMin then true
       else if s.ssu.coilMin + 50 ≤ ceiling then false else s.ssu.budgetPause
     ∃ t, exec c s = .next t ∧ kept [.ssu] s t
       ∧ t.ssu = { s.ssu with
           draw := draw, allowance := al, railBudget := budget, coilCeiling := ceiling
           dutyCeiling := min (ceiling * 1024 / s.ssu.coilFull) s.ssu.dutyMax, budgetPause := pause }
       ∧ issued c
         (if t.ssu.allowance = s.ssu.allowance ∧ t.ssu.dutyCeiling = s.ssu.dutyCeiling
             ∧ t.ssu.budgetPause = s.ssu.budgetPause then []
           else [.ssuResultDelivery t.ssu.allowance t.ssu.dutyCeiling t.ssu.budgetPause]) s t)
  ∧ (∀ (draw : Nat) (al : Allowance) (s : State), ∃ t t' u u',
       exec (.drawDelivery draw) s = .next t ∧ exec (.allowanceDelivery al) t = .next t'
       ∧ exec (.allowanceDelivery al) s = .next u ∧ exec (.drawDelivery draw) u = .next u'
       ∧ t'.ssu.railBudget = u'.ssu.railBudget ∧ t'.ssu.coilCeiling = u'.ssu.coilCeiling
       ∧ t'.ssu.dutyCeiling = u'.ssu.dutyCeiling)

/-! ### The pen charger (chapter 8) -/

/-- A pen inserted in EMPTY starts a probe at the duty of 64 or the bound, or waits in PAUSED while a pause reason holds;
a pen removed from any other state stops the coil at once and leaves the charger EMPTY. Each is recorded and reported
(R122 to R124, R120). -/
def Obligations.PenComesAndGoes : Prop :=
  ∀ (time : PartTime) (s : State),
    let ts := s.partTime.setWidth 16
    let reason := s.pch.allowance = .deny ∨ s.pch.budgetPause = true
    let paused : ChargerState := .paused .probe (s.pch.allowance = .deny) s.pch.budgetPause
    (s.pch.state = .empty → ∃ t, exec (.penInsertion time) s = .next t ∧ kept [.pch] s t
      ∧ (reason → t.pch = { s.pch with state := paused, staged := 0, ocStreak := 0 })
      ∧ (¬ reason → t.pch = { s.pch with
          state := .probe, staged := min 64 (min s.ssu.dutyMax s.pch.dutyCeiling), probeCount := 0
          probePassed := false, ocStreak := 0, exitStreak := 0, elapsed := 0 })
      ∧ issued (.penInsertion time) [.recordOffer (.penEvent true t.pch.state ts), .penInsertedOccurrence,
          .triggerDelivery .penInserted] s t)
    ∧ (s.pch.state ≠ .empty → ∃ t, exec (.penRemoval time) s = .next t ∧ kept [.pch] s t
      ∧ t.pch = { s.pch with
          state := .empty, applied := 0, staged := 0, rechargeTimer := .cancelled, elapsed := 0, probeCount := 0
          probePassed := false, ocStreak := 0, exitStreak := 0 }
      ∧ issued (.penRemoval time) [.recordOffer (.penEvent false s.pch.state ts), .penRemovedOccurrence] s t)

/-- At every interval end the measured current is recorded, the staged duty is applied, the next interval takes REG_INTERVAL
in force, and telemetry reports the duty of the interval just ended. In EMPTY, DONE, PAUSED and FAULT nothing else changes
(R121, R135).
In PROBE and CHARGING a current above OC_LIMIT adds 1 to the overcurrent streak and any other sets it to 0; the third in a
row is a FAULT, with its record and trigger, which clears both streaks (R129, R132). Otherwise a pause reason freezes the
charge with no duty, and drops a probe's count (R130). The streak stands after the end, unless DONE or FAULT is entered,
where it is 0 (R128, R129, R132). The deliveries wait in flight in this order (log 2). -/
def Obligations.IntervalEnds : Prop :=
  ∀ (current : Nat) (s : State),
    let streak := if s.pch.ocLimit < current then s.pch.ocStreak + 1 else 0
    let reason := s.pch.allowance = .deny ∨ s.pch.budgetPause = true
    let driven := s.pch.state = .probe ∨ ∃ k, s.pch.state = .charging k
    let ts := s.partTime.setWidth 16
    let measured : Pch := { s.pch with lastCurrent := current, interval := s.pch.regInterval }
    ∃ t, exec (.intervalEnd current) s = .next t ∧ kept [.pch] s t
      ∧ t.pch.lastCurrent = current ∧ t.pch.applied = t.pch.staged ∧ t.pch.interval = s.pch.regInterval
      ∧ (∃ cs, t.inflight = s.inflight ++ cs
        ++ [.recordOffer (.chargeTelemetry t.pch.state t.pch.rowKind s.pch.applied current s.pch.dutyCeiling ts)]
        ∧ (s.pch.state ≠ .probe → (∀ k, s.pch.state ≠ .charging k) →
            cs = [] ∧ t.pch = { measured with applied := s.pch.staged })
        ∧ (driven → 3 ≤ streak →
            t.pch = { measured with
              state := .fault .overcurrent s.pch.state.stage, staged := 0, applied := 0, ocStreak := 0, exitStreak := 0 }
            ∧ cs = [.recordOffer (.fault (.charger .overcurrent s.pch.state.stage current) ts),
                .triggerDelivery .chargerFault])
        ∧ (s.pch.state = .probe → streak < 3 → reason →
            cs = [] ∧ t.pch = { measured with
              state := .paused .probe (s.pch.allowance = .deny) s.pch.budgetPause, staged := 0, applied := 0
              ocStreak := streak, probeCount := 0, probePassed := false })
        ∧ (∀ k, s.pch.state = .charging k → streak < 3 → reason →
            cs = [] ∧ t.pch = { measured with
              state := .paused (.charging k) (s.pch.allowance = .deny) s.pch.budgetPause, staged := 0, applied := 0
              ocStreak := streak })
        ∧ (driven → t.pch.ocStreak = match t.pch.state with | .done => 0 | .fault _ _ => 0 | _ => streak))

/-- With no overcurrent and no pause reason, CHARGING moves the duty by one step toward the target and never past the
bound. Five interval ends in a row below the exit current at full duty, or the time limit, end the stage: the next row in
use follows, or DONE; a limit with action FAULT is a fault, with its record and trigger, which keeps the elapsed time
(R125 to R128, R132). The elapsed time is the full sum, also above 65 535 000 ms (log 35).
With no overcurrent and no pause reason, the first interval end of a probe only marks itself, the two that follow stage
the probe duty again, and the third counted one decides: a current of PROBE_MIN or more begins stage 0, a lower one is
DONE (R124). Each issues the telemetry record alone, with the duty of the interval just ended, and the kind of the row in progress in
CHARGING and in PAUSED toward it (R121, R135). -/
def Obligations.ChargeRegulated : Prop :=
  (∀ (current k : Nat) (s : State), s.pch.state = .charging k →
     s.pch.allowance ≠ .deny → s.pch.budgetPause = false → ¬ (s.pch.ocLimit < current ∧ 2 ≤ s.pch.ocStreak) →
     let row := s.pch.rowAt k
     let bound := min s.ssu.dutyMax s.pch.dutyCeiling
     let duty :=
       if current + s.pch.regBand < row.target then min bound (s.pch.staged + s.pch.regStep)
       else if row.target + s.pch.regBand < current then min bound (s.pch.staged - s.pch.regStep)
       else min bound s.pch.staged
     let exits := match row.exitBelow with
       | some e => if current < e ∧ s.pch.applied = s.ssu.dutyMax ∧ s.ssu.dutyMax ≤ s.pch.dutyCeiling
           then s.pch.exitStreak + 1 else 0
       | none => 0
     let elapsed := s.pch.elapsed + s.pch.interval
     let follows : ChargerState := if k < 5 ∧ (s.pch.rowAt (k + 1)).inUse = true then .charging (k + 1) else .done
     let measured : Pch := { s.pch with
       lastCurrent := current, interval := s.pch.regInterval
       ocStreak := if s.pch.ocLimit < current then s.pch.ocStreak + 1 else 0 }
     let regulated : Pch :=
       { measured with staged := duty, applied := duty, elapsed := elapsed, exitStreak := exits }
     let timedOut : Bool := exits < 5 ∧ row.limit * 1000 ≤ elapsed ∧ row.action = .fault
     let ts := s.partTime.setWidth 16
     ∃ t, exec (.intervalEnd current) s = .next t ∧ kept [.pch] s t
       ∧ (exits < 5 → elapsed < row.limit * 1000 →
           t.pch = regulated)
       ∧ (5 ≤ exits ∨ (row.limit * 1000 ≤ elapsed ∧ row.action = .next) →
           (follows = .done → t.pch = { regulated with
             state := .done, staged := 0, applied := 0, ocStreak := 0, exitStreak := 0, elapsed := 0
             rechargeTimer := .running (s.partTime + BitVec.ofNat 32 (s.pch.rechargeInterval * 1000)) })
           ∧ (follows ≠ .done → t.pch = { regulated with state := follows, elapsed := 0, exitStreak := 0 }))
       ∧ (exits < 5 → row.limit * 1000 ≤ elapsed → row.action = .fault →
           t.pch = { regulated with
             state := .fault .stageTimeout (some k), staged := 0, applied := 0, ocStreak := 0, exitStreak := 0 })
       ∧ t.inflight = s.inflight
         ++ (if timedOut then [.recordOffer (.fault (.charger .stageTimeout (some k) current) ts),
               .triggerDelivery .chargerFault] else [])
         ++ [.recordOffer (.chargeTelemetry t.pch.state t.pch.rowKind s.pch.applied current s.pch.dutyCeiling ts)])
  ∧ (∀ (current : Nat) (s : State), s.pch.state = .probe →
       s.pch.allowance ≠ .deny → s.pch.budgetPause = false → ¬ (s.pch.ocLimit < current ∧ 2 ≤ s.pch.ocStreak) →
       let measured : Pch := { s.pch with
         lastCurrent := current, interval := s.pch.regInterval
         ocStreak := if s.pch.ocLimit < current then s.pch.ocStreak + 1 else 0 }
       let counted : Pch := { measured with probeCount := s.pch.probeCount + 1 }
       let duty := min 64 (min s.ssu.dutyMax s.pch.dutyCeiling)
       ∃ t, exec (.intervalEnd current) s = .next t ∧ kept [.pch] s t
         ∧ t.inflight = s.inflight ++ [.recordOffer (.chargeTelemetry t.pch.state t.pch.rowKind s.pch.applied current
             s.pch.dutyCeiling (s.partTime.setWidth 16))]
         ∧ (s.pch.probePassed = false →
             t.pch = { measured with probePassed := true, applied := s.pch.staged })
         ∧ (s.pch.probePassed = true → s.pch.probeCount < 2 →
             t.pch = { counted with staged := duty, applied := duty })
         ∧ (s.pch.probePassed = true → 2 ≤ s.pch.probeCount → s.pch.probeMin ≤ current →
             t.pch = { counted with state := .charging 0, elapsed := 0, exitStreak := 0, applied := s.pch.staged })
         ∧ (s.pch.probePassed = true → 2 ≤ s.pch.probeCount → current < s.pch.probeMin →
             t.pch = { counted with
               state := .done, staged := 0, applied := 0, ocStreak := 0, exitStreak := 0, elapsed := 0
               rechargeTimer := .running (s.partTime + BitVec.ofNat 32 (s.pch.rechargeInterval * 1000)) }))
  ∧ (∀ p : Pch, (∀ k r, p.active[k]? = some r → p.rowAt k = r)
       ∧ p.rowKind = match p.state with
         | .charging k | .paused (.charging k) _ _ => some (p.rowAt k).kind
         | _ => none)

/-- An SSU result replaces the recorded one. In PAUSED it updates the reasons, and with none left a probe starts anew or
the frozen stage goes on from duty 0; in any other state it is only recorded (R120, R131).
The recharge timer's expiry in DONE and CLEAR of CHARGER in FAULT start a probe, or pause where a reason holds. CLEAR
elsewhere changes nothing. COMMIT of PROFILE makes the pending bank active; a charge in progress starts again from the
probe, or pauses with the coil stopped at once, and a paused one will start again from the probe; the overcurrent streak is
kept, and so is all else of the charger (R128, R129, R132, R134). None of them issues a delivery. -/
def Obligations.ChargerRestarts : Prop :=
  (∀ (al : Allowance) (ceiling : Nat) (pause : Bool) (s : State),
     let c : Instr := .ssuResultDelivery al ceiling pause
     let p := { s.pch with allowance := al, dutyCeiling := ceiling, budgetPause := pause }
     ∃ t, exec c s = .next t ∧ kept [.pch] s t ∧ issued c [] s t
       ∧ ((∀ g d b, s.pch.state ≠ .paused g d b) → t.pch = p)
       ∧ (∀ g d b, s.pch.state = .paused g d b →
           (al = .deny ∨ pause = true → t.pch = { p with state := .paused g (al = .deny) pause })
           ∧ (al ≠ .deny → pause = false → ∀ k, g = .charging k → t.pch = { p with state := .charging k, staged := 0 })
           ∧ (al ≠ .deny → pause = false → g = .probe → t.pch = { p with
               state := .probe, staged := min 64 (min s.ssu.dutyMax ceiling), probeCount := 0, probePassed := false
               exitStreak := 0, elapsed := 0 })))
  ∧ (∀ (tag : Byte) (s : State),
       let reason := s.pch.allowance = .deny ∨ s.pch.budgetPause = true
       let clear : Instr := .clearCharger tag
       let commit : Instr := .commitProfile tag
       let paused (p : Pch) : Pch :=
         { p with state := .paused .probe (s.pch.allowance = .deny) s.pch.budgetPause, staged := 0 }
       let probing (p : Pch) : Pch := { p with
         state := .probe, staged := min 64 (min s.ssu.dutyMax s.pch.dutyCeiling), probeCount := 0, probePassed := false
         exitStreak := 0, elapsed := 0 }
       let restarted (p : Pch) (u : State) : Prop := (reason → u.pch = paused p) ∧ (¬ reason → u.pch = probing p)
       (s.pch.rechargeTimer.due s.partTime = true → s.pch.state = .done →
         ∃ t, exec .rechargeTimerExpiry s = .next t ∧ kept [.pch] s t ∧ t.inflight = s.inflight
           ∧ restarted { s.pch with rechargeTimer := .cancelled } t)
       ∧ (∀ kind stage, s.pch.state = .fault kind stage →
         ∃ t u, exec clear s = .next t ∧ replied clear tag 0x0B .ok 0xFF [] u t ∧ kept [.pch] s u
           ∧ issued clear [] s u ∧ restarted { s.pch with ocStreak := 0 } u)
       ∧ ((∀ kind stage, s.pch.state ≠ .fault kind stage) →
         ∃ t, exec clear s = .next t ∧ replied clear tag 0x0B .ok 0xFF [] (s.took clear) t)
       ∧ (∃ t u, exec commit s = .next t ∧ replied commit tag 0x07 .ok 0xFF [] u t ∧ kept [.pch] s u
         ∧ issued commit [] s u
         ∧ (∀ k, s.pch.state = .charging k →
             let p : Pch := { s.pch with active := s.pch.pending, elapsed := 0, exitStreak := 0 }
             (reason → u.pch = { paused p with applied := 0 }) ∧ (¬ reason → u.pch = probing p))
         ∧ (∀ g d b, s.pch.state = .paused g d b → u.pch = { s.pch with
             active := s.pch.pending, state := .paused .probe d b, elapsed := 0, exitStreak := 0 })
         ∧ ((∀ k, s.pch.state ≠ .charging k) → (∀ g d b, s.pch.state ≠ .paused g d b) →
             u.pch = { s.pch with active := s.pch.pending })))

/-! ### Sleep and wake (chapter 9) -/

/-- What the nine occurrences count as: a wake-class event, an activity event, or both, in that order (R140). The platform
state, the recorded class, the closed-hold timer and the parameters are kept; so is the idle timer without an activity event.
An activity event under an IDLE_TIMEOUT of 0 leaves the timer cancelled (R141, R152). WAKE_MASK is the sum of the weights of
the kinds it includes, and the n-th kind is bit n of the reason set (R152, 11.7.5). -/
def Obligations.OccurrencesTaken : Prop :=
  (∀ (mask : Byte) (r : WakeReason) (weight : Nat),
    (r, weight) ∈ ([ (.lidOpened, 1), (.key, 2), (.pointer, 4), (.dockAttached, 8), (.dockDetached, 16),
      (.penInserted, 32), (.penRemoved, 64), (.motion, 128) ] : List (WakeReason × Nat)) →
    (masked mask r = true ↔ mask.toNat / weight % 2 = 1) ∧ r.bit = BitVec.ofNat 9 weight)
  ∧ WakeReason.recentActivity.bit = 256
  ∧ ∀ (c : Instr) (wake : Option WakeReason) (act : Option Activity) (s : State),
    (c, wake, act) ∈ ([ (.keyOccurrence, some .key, some .key), (.pointerOccurrence, some .pointer, some .pointer),
        (.dockAttach, some .dockAttached, some .dock), (.dockDetach, some .dockDetached, some .dock),
        (.rotationOccurrence, none, some .rotation), (.penInsertedOccurrence, some .penInserted, some .pen),
        (.penRemovedOccurrence, some .penRemoved, some .pen), (.lidMotionOccurrence true, some .motion, some .motion),
        (.lidMotionOccurrence false, some .motion, none) ]
        : List (Instr × Option WakeReason × Option Activity)) →
    let served := s.swa.platform = .asleep ∧ ∃ r, wake = some r ∧ masked s.swa.wakeMask r = true
    let set := s.swa.wakeSet ||| (wake.map WakeReason.bit).getD 0
    let ts := s.partTime.setWidth 16
    ∃ t, exec c s = .next t ∧ kept [.swa] s t
      ∧ t.swa = { s.swa with
          lastWake := t.swa.lastWake, wakeRaised := t.swa.wakeRaised, wakeSet := t.swa.wakeSet
          advice := t.swa.advice, idleTimer := t.swa.idleTimer }
      ∧ t.swa.lastWake = (if wake.isSome then some s.partTime else s.swa.lastWake)
      ∧ (served → t.swa.wakeRaised = true ∧ t.swa.wakeSet = set)
      ∧ (¬ served → t.swa.wakeRaised = s.swa.wakeRaised ∧ t.swa.wakeSet = s.swa.wakeSet)
      ∧ t.swa.advice = (if act.isSome ∧ s.swa.platform = .awake then none else s.swa.advice)
      ∧ t.swa.idleTimer = (if act = none then s.swa.idleTimer
          else if s.swa.idleTimeout = 0 then .cancelled
          else .running (s.partTime + BitVec.ofNat 32 (s.swa.idleTimeout * 1000)))
      ∧ t.swa.platform = s.swa.platform ∧ t.swa.cls = s.swa.cls ∧ t.swa.holdTimer = s.swa.holdTimer
      ∧ (∀ r, wake = some r → served → s.swa.wakeRaised = false → issued c [.recordOffer (.sleep (.wake r set) ts)] s t)
      ∧ (∀ a reason, act = some a → s.swa.platform = .awake → s.swa.advice = some reason →
          issued c [.recordOffer (.sleep (.withdrawn reason (.activity a)) ts)] s t)
      ∧ (¬ (served ∧ s.swa.wakeRaised = false) → ¬ (act.isSome ∧ s.swa.platform = .awake ∧ s.swa.advice ≠ none) →
          issued c [] s t)

/-- An acceptance records the new sleep class and counts as activity. Leaving CLOSED is a LID_OPENED wake-class event and
cancels the closed-hold timer; entering CLOSED starts it, or under a CLOSED_HOLD of 0 advises LID_CLOSED at once while
AWAKE (R143, R146). The wake that LID_OPENED raises, the withdrawal of standing advice and that advice each offer their
SLEEP record (R142, R146, R147, R150), and wait in flight in this order (log 2).
A class change without an acceptance records the class, cancels the closed-hold timer when CLOSED is left, withdraws
advice on a change to NONE and LID_CLOSED advice when CLOSED is left, and starts a cancelled idle timer, which under an
IDLE_TIMEOUT of 0 stays cancelled (R144, R147, R152). The rest of the arbiter is kept in both. -/
def Obligations.ClassNoticed : Prop :=
  (∀ (old new : SleepClass) (s : State),
     let opened := old = .closed ∧ new ≠ .closed
     let closing := old ≠ .closed ∧ new = .closed
     let idle : Timer := if s.swa.idleTimeout = 0 then .cancelled
       else .running (s.partTime + BitVec.ofNat 32 (s.swa.idleTimeout * 1000))
     ∃ t, exec (.acceptanceNotice old new) s = .next t ∧ kept [.swa] s t
       ∧ t.swa = { s.swa with
           cls := t.swa.cls, idleTimer := t.swa.idleTimer, holdTimer := t.swa.holdTimer, lastWake := t.swa.lastWake
           wakeRaised := t.swa.wakeRaised, wakeSet := t.swa.wakeSet, advice := t.swa.advice }
       ∧ t.swa.cls = new ∧ t.swa.idleTimer = idle ∧ t.swa.platform = s.swa.platform
       ∧ (opened → t.swa.holdTimer = .cancelled ∧ t.swa.lastWake = some s.partTime)
       ∧ (opened → s.swa.platform = .asleep → masked s.swa.wakeMask .lidOpened = true →
           t.swa.wakeRaised = true ∧ t.swa.wakeSet = s.swa.wakeSet ||| 1)
       ∧ (closing → s.swa.closedHold ≠ 0 →
           t.swa.holdTimer = .running (s.partTime + BitVec.ofNat 32 s.swa.closedHold))
       ∧ (¬ opened → ¬ (closing ∧ s.swa.closedHold ≠ 0) → t.swa.holdTimer = s.swa.holdTimer)
       ∧ (s.swa.platform = .awake →
           t.swa.advice = if closing ∧ s.swa.closedHold = 0 then some .lidClosed else none)
       ∧ (s.swa.platform = .asleep → t.swa.advice = s.swa.advice)
       ∧ (¬ opened → t.swa.lastWake = s.swa.lastWake)
       ∧ (¬ (opened ∧ s.swa.platform = .asleep ∧ masked s.swa.wakeMask .lidOpened = true) →
           t.swa.wakeRaised = s.swa.wakeRaised ∧ t.swa.wakeSet = s.swa.wakeSet)
       ∧ (let ts := s.partTime.setWidth 16
          issued (.acceptanceNotice old new)
            ((if opened ∧ s.swa.platform = .asleep ∧ masked s.swa.wakeMask .lidOpened = true ∧ s.swa.wakeRaised = false
                then [.recordOffer (.sleep (.wake .lidOpened (s.swa.wakeSet ||| 1)) ts)] else [])
              ++ (match s.swa.platform, s.swa.advice with
                | .awake, some reason => [.recordOffer (.sleep (.withdrawn reason (.activity .posture)) ts)]
                | _, _ => [])
              ++ (if closing ∧ s.swa.closedHold = 0 ∧ s.swa.platform = .awake
                then [.recordOffer (.sleep (.advice .lidClosed new) ts)] else [])) s t))
  ∧ (∀ (cls : SleepClass) (s : State),
       let c : Instr := .sleepClassChange cls
       let left := s.swa.cls = .closed ∧ cls ≠ .closed
       let withdrawn := cls = .none ∨ (left ∧ s.swa.advice = some .lidClosed)
       ∃ t, exec c s = .next t ∧ kept [.swa] s t
         ∧ t.swa = { s.swa with
             cls := t.swa.cls, holdTimer := t.swa.holdTimer, advice := t.swa.advice, idleTimer := t.swa.idleTimer }
         ∧ t.swa.cls = cls
         ∧ t.swa.holdTimer = (if left then .cancelled else s.swa.holdTimer)
         ∧ (withdrawn → t.swa.advice = none
             ∧ issued c (match s.swa.advice with
               | some reason => [.recordOffer (.sleep (.withdrawn reason .sleepClass) (s.partTime.setWidth 16))]
               | none => []) s t)
         ∧ (¬ withdrawn → t.swa.advice = s.swa.advice ∧ issued c [] s t)
         ∧ (∀ e, s.swa.idleTimer = .running e → t.swa.idleTimer = .running e)
         ∧ (s.swa.idleTimer = .cancelled → s.swa.idleTimeout ≠ 0 →
             t.swa.idleTimer = .running (s.partTime + BitVec.ofNat 32 (s.swa.idleTimeout * 1000)))
         ∧ (s.swa.idleTimer = .cancelled → s.swa.idleTimeout = 0 → t.swa.idleTimer = .cancelled))

/-- The idle timer's expiry, when it is due, advises IDLE while AWAKE in a class other than NONE with no advice standing; the closed-hold
timer's expiry, when it is due, advises LID_CLOSED while AWAKE unless it is advised already (R145, R146).
Declaring ASLEEP clears the advice, raises a RECENT_ACTIVITY wake when the last wake-class event lies within
WAKE_GUARD, and tells the action lines and the upstream engine; declaring AWAKE clears the wake and starts the idle timer.
Both are answered OK (R148 to R150). -/
def Obligations.SleepAdvised : Prop :=
  (∀ s : State,
     let ts := s.partTime.setWidth 16
     let idle := s.swa.platform = .awake ∧ s.swa.cls ≠ .none ∧ s.swa.advice = none
     let closed := s.swa.platform = .awake ∧ s.swa.advice ≠ some .lidClosed
     (s.swa.idleTimer.due s.partTime = true → ∃ t, exec .idleTimerExpiry s = .next t ∧ kept [.swa] s t
       ∧ (idle → t.swa = { s.swa with idleTimer := .cancelled, advice := some .idle }
         ∧ t.inflight = s.inflight ++ [.recordOffer (.sleep (.advice .idle s.swa.cls) ts)])
       ∧ (¬ idle → t.swa = { s.swa with idleTimer := .cancelled } ∧ t.inflight = s.inflight))
     ∧ (s.swa.holdTimer.due s.partTime = true → ∃ t, exec .closedHoldExpiry s = .next t ∧ kept [.swa] s t
       ∧ (closed → t.swa = { s.swa with holdTimer := .cancelled, advice := some .lidClosed }
         ∧ t.inflight = s.inflight ++ [.recordOffer (.sleep (.advice .lidClosed s.swa.cls) ts)])
       ∧ (¬ closed → t.swa = { s.swa with holdTimer := .cancelled } ∧ t.inflight = s.inflight)))
  ∧ (∀ (tag : Byte) (s : State),
       let asleep : Instr := .setPlatformStateAsleep tag
       let awake : Instr := .setPlatformStateAwake tag
       let guarded := ∃ w, s.swa.lastWake = some w ∧ (s.partTime - w).toNat ≤ s.swa.wakeGuard
       let set := s.swa.wakeSet ||| WakeReason.recentActivity.bit
       (∃ t u, exec asleep s = .next t ∧ replied asleep tag 0x08 .ok 0xFF [] u t ∧ kept [.swa] s u
         ∧ (guarded → u.swa = { s.swa with platform := .asleep, advice := none, wakeRaised := true, wakeSet := set })
         ∧ (¬ guarded → u.swa = { s.swa with platform := .asleep, advice := none })
         ∧ (guarded → s.swa.wakeRaised = false → issued asleep
             [.recordOffer (.sleep (.wake .recentActivity set) (s.partTime.setWidth 16)),
               .triggerDelivery .platformAsleep, .columnChange .asleep] s u)
         ∧ (¬ guarded ∨ s.swa.wakeRaised = true →
             issued asleep [.triggerDelivery .platformAsleep, .columnChange .asleep] s u))
       ∧ (∃ t, exec awake s = .next t ∧ replied awake tag 0x08 .ok 0xFF []
         (((s.took awake).setSwa { s.swa with
             platform := .awake, wakeRaised := false, wakeSet := 0
             idleTimer := if s.swa.idleTimeout = 0 then .cancelled
               else .running (s.partTime + BitVec.ofNat 32 (s.swa.idleTimeout * 1000)) }).emits
           [.triggerDelivery .platformAwake, .columnChange .awake]) t))

/-! ### The upstream engine (chapter 10) -/

/-- With room for any class in the queue, an offered record is forwarded, thinned or dropped by the column in force, or bypasses
the route table at class HIGH, as synthetic releases and the streams 12 to 14 do, and only DROP counts a gap (R155, R156, R158
to R160). What is forwarded joins the tail of the
queue while a frame is in transmission or HOLD is asserted. With the transmitter idle and HOLD clear it begins at once, as after
a reset, with its stream's gap count, which becomes 0 (R164, R165). -/
def Obligations.OffersRouted : Prop :=
  (∀ r : Record, r.bypasses = match r with
    | .key synthetic _ _ _ | .pointer synthetic _ _ _ _ _ => synthetic
    | r => decide (r.stream = .sleep ∨ r.stream = .response ∨ r.stream = .fault))
  ∧ (∀ (st : Stream) (e : RouteEntry) (u : Ufe), u.active[st.id]? = some e →
    u.columnOf st = match u.column with | .awake => e.awake | .asleep => e.asleep)
  ∧ ∀ (r : Record) (s : State), transmitterSettled s → s.ufe.queue.length < 48 → s.ufe.lowerCount < 40 →
    let c : Instr := .recordOffer r
    let col := s.ufe.columnOf r.stream
    let w := s.ufe.fwdAt r.stream.id
    let frame (cls : FrameClass) (extra : List Byte) : Frame :=
      ⟨r.stream, false, cls, r.payload ++ extra, s.partTime, r.final⟩
    let after (w' : Forwarding) : Ufe := { s.ufe with fwd := s.ufe.fwd.set r.stream.id w' }
    ∃ t, exec c s = .next t ∧ kept [.ufe] s t ∧ issued c [] s t
      ∧ (r.bypasses = true → t.ufe = s.ufe.joined (frame .high []))
      ∧ (r.bypasses = false → match col.action with
        | .pass => t.ufe = s.ufe.joined (frame col.cls [])
        | .drop => t.ufe = { s.ufe with gaps := s.ufe.gaps.set r.stream.id (min 255 (s.ufe.gap r.stream + 1)) }
        | .decimate n =>
          let u := after { w with counter := if w.counter + 1 < n then w.counter + 1 else 0 }
          t.ufe = if w.counter = 0 then u.joined (frame col.cls []) else u
        | .changeOnly d m =>
          if isChanged d w.last r = true ∨ m ≤ w.suppressed then
            t.ufe = (after { w with last := some r, suppressed := 0 }).joined (frame col.cls [byteOf w.suppressed])
          else t.ufe = after { w with suppressed := w.suppressed + 1 }
        | .batch b f => s.ufe.fwd.length = 12 →
          if w.acc.length + 1 < b then
            t.ufe = after { w with
              acc := w.acc ++ [r]
              flush := if w.acc = [] then .running (s.partTime + BitVec.ofNat 32 f) else w.flush }
          else
            t.ufe = (after { w with acc := [], flush := .cancelled }).joined
              ⟨r.stream, true, col.cls, batchPayload (w.acc ++ [r]), s.partTime, false⟩)

/-- Under CHANGE_ONLY a record is changed when none was forwarded, when the deadband is 0, when a numeric field has moved
by at least the deadband, or when another value field differs; the raw hinge and timestamps do not count (R159). -/
def Obligations.ChangesDetected : Prop :=
  ∀ d : Nat,
    (∀ r, isChanged d none r = true)
    ∧ (∀ a b ta tb, isChanged d (some (.lidSample a ta)) (.lidSample b tb) = true ↔
        d ≤ (b.x - a.x).natAbs ∨ d ≤ (b.y - a.y).natAbs ∨ d ≤ (b.z - a.z).natAbs)
    ∧ (∀ a b ta tb, isChanged d (some (.baseSample a ta)) (.baseSample b tb) = true ↔
        d ≤ (b.x - a.x).natAbs ∨ d ≤ (b.y - a.y).natAbs ∨ d ≤ (b.z - a.z).natAbs)
    ∧ (∀ (a b : Nat) qa qb ra rb ta tb, isChanged d (some (.hinge (some a) qa ra ta)) (.hinge (some b) qb rb tb) = true ↔
        d ≤ ((b : Int) - a).natAbs ∨ qa ≠ qb)
    ∧ (∀ (a : Nat) qa qb ra rb ta tb, isChanged d (some (.hinge (some a) qa ra ta)) (.hinge none qb rb tb) = true)
    ∧ (∀ (b : Nat) qa qb ra rb ta tb, isChanged d (some (.hinge none qa ra ta)) (.hinge (some b) qb rb tb) = true)
    ∧ (∀ qa qb ra rb ta tb, isChanged d (some (.hinge none qa ra ta)) (.hinge none qb rb tb) = true ↔ d = 0 ∨ qa ≠ qb)
    ∧ (∀ (a b : Nat) ia ib fa fb ta tb,
        isChanged d (some (.dockStatus a ia fa ta)) (.dockStatus b ib fb tb) = true ↔
          d ≤ ((b : Int) - a).natAbs ∨ ia ≠ ib ∨ fa ≠ fb)
    ∧ (∀ (u v i j x y : Nat) sa sb ka kb ta tb,
        isChanged d (some (.chargeTelemetry sa ka u i x ta)) (.chargeTelemetry sb kb v j y tb) = true ↔
          d ≤ ((v : Int) - u).natAbs ∨ d ≤ ((j : Int) - i).natAbs ∨ d ≤ ((y : Int) - x).natAbs
          ∨ sa.code ≠ sb.code ∨ sa.stage ≠ sb.stage ∨ ka ≠ kb)

/-- Admission by class, while no frame can begin: a frame joins where its class has room; a HIGH frame evicts the oldest LOW,
or the oldest NORMAL, from a full queue; a NORMAL frame evicts the oldest LOW; any other frame is dropped. The stream of
the lost frame counts a gap; the TAG of a lost RESPONSE is recorded by the host link, and that of a final one waits for the
transmitter to be idle (R163 to R165, R176; log 28). With the transmitter idle, HOLD clear and the queue empty a frame begins at once (R165).
On every queue, a record offered is admitted so as the frame that the column in force makes of it, or at class HIGH where it
bypasses the route table; only a final RESPONSE offered to 48 HIGH frames is left to another statement (R155, R156, R158 to
R160). -/
def Obligations.FramesAdmitted : Prop :=
  (∀ (f : Frame) (s : State),
    let q := s.ufe.queue
    let t := admitFrame f s
    let room := q.length < 48 ∧ s.ufe.lowerCount < 40
    let oldestOf (cls : FrameClass) (pre : List Frame) (g : Frame) (post : List Frame) : Prop :=
      q = pre ++ g :: post ∧ g.cls = cls ∧ ∀ x ∈ pre, x.cls ≠ cls
    let leaves (queue : List Frame) (g : Frame) : Prop := t = { s with
      ufe := { s.ufe with
        queue := queue, gaps := s.ufe.gaps.set g.stream.id (min 255 (s.ufe.gap g.stream + 1))
        finalLost := if g.stream = .response ∧ g.final = true then some (g.payload.getD 0 0) else s.ufe.finalLost }
      hlm := { s.hlm with
        lastLost := if g.stream = .response ∧ g.final = false then some (g.payload.getD 0 0) else s.hlm.lastLost } }
    (s.ufe.sending = none → s.ufe.hold = false → s.ufe.finalLost = none → q = [] → t = s.setUfe (s.ufe.joined f))
    ∧ (s.ufe.sending ≠ none ∨ s.ufe.hold = true ∨ s.ufe.finalLost ≠ none →
      (f.cls = .high ∧ q.length < 48 ∨ f.cls ≠ .high ∧ room → t = s.setUfe { s.ufe with queue := q ++ [f] })
      ∧ (∀ pre g post, oldestOf .low pre g post → f.cls = .high ∧ 48 ≤ q.length ∨ f.cls = .normal ∧ ¬ room →
          leaves (pre ++ post ++ [f]) g)
      ∧ (∀ pre g post, oldestOf .normal pre g post → (∀ x ∈ q, x.cls ≠ .low) → f.cls = .high → 48 ≤ q.length →
          leaves (pre ++ post ++ [f]) g)
      ∧ (f.cls = .high ∧ 48 ≤ q.length ∧ (∀ x ∈ q, x.cls = .high)
          ∨ f.cls = .normal ∧ ¬ room ∧ (∀ x ∈ q, x.cls ≠ .low) ∨ f.cls = .low ∧ ¬ room → leaves q f)))
  ∧ (∀ (r : Record) (s : State), lossWaits s →
    ¬ (r.final = true ∧ 48 ≤ s.ufe.queue.length ∧ ∀ x ∈ s.ufe.queue, x.cls = .high) →
    let c : Instr := .recordOffer r
    let u := s.took c
    let col := s.ufe.columnOf r.stream
    let w := s.ufe.fwdAt r.stream.id
    let frame (cls : FrameClass) (extra : List Byte) : Frame :=
      ⟨r.stream, false, cls, r.payload ++ extra, s.partTime, r.final⟩
    let after (w' : Forwarding) : State := u.setUfe { s.ufe with fwd := s.ufe.fwd.set r.stream.id w' }
    (r.bypasses = true → exec c s = .next (admitFrame (frame .high []) u))
    ∧ (r.bypasses = false → match col.action with
      | .pass => exec c s = .next (admitFrame (frame col.cls []) u)
      | .drop => exec c s = .next (u.setUfe { s.ufe with
          gaps := s.ufe.gaps.set r.stream.id (min 255 (s.ufe.gap r.stream + 1)) })
      | .decimate n =>
        let v := after { w with counter := if w.counter + 1 < n then w.counter + 1 else 0 }
        exec c s = .next (if w.counter = 0 then admitFrame (frame col.cls []) v else v)
      | .changeOnly d m =>
        if isChanged d w.last r = true ∨ m ≤ w.suppressed then
          exec c s = .next (admitFrame (frame col.cls [byteOf w.suppressed]) (after { w with last := some r, suppressed := 0 }))
        else exec c s = .next (after { w with suppressed := w.suppressed + 1 })
      | .batch b f => s.ufe.fwd.length = 12 →
        if w.acc.length + 1 < b then
          exec c s = .next (after { w with
            acc := w.acc ++ [r]
            flush := if w.acc = [] then .running (s.partTime + BitVec.ofNat 32 f) else w.flush })
        else
          exec c s = .next (admitFrame ⟨r.stream, true, col.cls, batchPayload (w.acc ++ [r]), s.partTime, false⟩
            (after { w with acc := [], flush := .cancelled }))))

/-- When a frame has completed, and when HOLD is released with the transmitter idle, the oldest frame of the highest class
queued begins: it leaves the queue with its stream's gap count, which becomes 0. While HOLD is asserted, and on an empty
queue, none begins (R164 to R166).
A change of HOLD while a frame is in transmission is recorded, and the frame goes on (R166). The completion of a frame behind
which the loss of the final RESPONSE waits carries out the SOFT_RESET (R165, R181; logs 6, 15, 16 and 28), and with no frame in
transmission nothing completes (log 5). -/
def Obligations.FramesSent : Prop :=
  (∀ (c : Instr) (s : State), s.ufe.finalLost = none → s.ufe.gaps.length = 15 →
    (c = .frameCompletion ∧ (∃ x, s.ufe.sending = some x ∧ x.frame.final = false)
      ∨ (∃ level, c = .holdChange level ∧ s.ufe.sending = none)) →
    let held := match c with | .holdChange level => level | _ => s.ufe.hold
    ∃ t, exec c s = .next t ∧ kept [.ufe] s t ∧ t.inflight = s.inflight
      ∧ t.ufe.hold = held ∧ t.ufe.fwd = s.ufe.fwd ∧ t.ufe.column = s.ufe.column
      ∧ (held = true ∨ s.ufe.queue = [] →
          t.ufe.sending = none ∧ t.ufe.queue = s.ufe.queue ∧ t.ufe.gaps = s.ufe.gaps)
      ∧ (∀ pre g post, held = false → s.ufe.queue = pre ++ g :: post → (∀ x ∈ pre, x.cls ≠ g.cls) →
          (∀ x ∈ s.ufe.queue, g.cls.code ≤ x.cls.code) →
          t.ufe.sending = some ⟨g, s.ufe.gap g.stream⟩ ∧ t.ufe.queue = pre ++ post ∧ t.ufe.gap g.stream = 0
          ∧ ∀ st, st ≠ g.stream → t.ufe.gap st = s.ufe.gap st))
  ∧ (∀ (level : Bool) (s : State), s.ufe.sending ≠ none ∨ s.ufe.finalLost ≠ none →
      exec (.holdChange level) s = .next (s.setUfe { s.ufe with hold := level }))
  ∧ (∀ s : State, s.ufe.sending ≠ none → s.ufe.finalLost ≠ none →
      exec .frameCompletion s = .next (afterSoftReset s))
  ∧ (∀ s : State, s.ufe.sending = none → exec .frameCompletion s = .next s)

/-- The final RESPONSE offered to 48 HIGH frames is lost: with the transmitter idle the SOFT_RESET is carried out at once
(logs 6, 15 and 16), and otherwise it waits for the frame in transmission (log 28). A RESPONSE that is not final leaves its TAG with the
host link. Each loss counts in the gap count of the stream, and the queue stays as it is (R163 to R165, R176, R181). -/
def Obligations.ResponsesLost : Prop :=
  ∀ (tag code row : Byte) (status : Status) (data : List Byte) (final : Bool) (s : State),
    s.ufe.finalLost = none ∨ s.ufe.sending ≠ none → 48 ≤ s.ufe.queue.length → (∀ x ∈ s.ufe.queue, x.cls = .high) →
    let c : Instr := .recordOffer (.response tag code status row data final)
    let u := s.took c
    let counted : Ufe := { s.ufe with
      gaps := s.ufe.gaps.set Stream.response.id (min 255 (s.ufe.gap .response + 1)) }
    (final = false →
      exec c s = .next ((u.setUfe counted).setHlm { s.hlm with lastLost := some tag }))
    ∧ (final = true → s.ufe.sending ≠ none → exec c s = .next (u.setUfe { counted with finalLost := some tag }))
    ∧ (final = true → s.ufe.sending = none → exec c s = .next (afterSoftReset u))

/-- A flush timer's expiry, when it is due, queues the records so far as one batch frame under the class of the column in force;
with room in the queue the frame joins its tail, or begins at once where the transmitter is idle and HOLD clear (R160, R165).
With no batch waiting, a change to the other column puts it in force and resets the thinning of the streams whose two
columns differ, and a COMMIT of ROUTE makes the pending bank active and resets the thinning of the entries that change;
each keeps the rest, and a delivery of the column in force changes nothing (R161, R162).
Batches that wait are queued first, each admitted by its class on whatever queue there is, under the column that was in force:
by a change of column all of them, by a COMMIT those whose entries change, in stream id order (log 36) (R161 to R163). -/
def Obligations.RoutesSwitched : Prop :=
  let batchOf (s : State) (st : Stream) (w : Forwarding) : Frame :=
    ⟨st, true, (s.ufe.columnOf st).cls, batchPayload w.acc, s.partTime, false⟩
  let emptied (u : State) (st : Stream) : Ufe :=
    { u.ufe with fwd := u.ufe.fwd.set st.id { u.ufe.fwdAt st.id with acc := [], flush := .cancelled } }
  let thin (w : Forwarding) : Forwarding := { w with counter := 0, last := none, suppressed := 0 }
  (∀ (st : Stream) (s : State), (s.ufe.fwdAt st.id).flush.due s.partTime = true →
     (lossWaits s → exec (.flushTimerExpiry st) s =
       .next (admitFrame (batchOf s st (s.ufe.fwdAt st.id)) (s.setUfe (emptied s st))))
     ∧ (transmitterSettled s → s.ufe.queue.length < 48 → s.ufe.lowerCount < 40 →
       exec (.flushTimerExpiry st) s =
         .next (s.setUfe ((emptied s st).joined (batchOf s st (s.ufe.fwdAt st.id))))))
  ∧ (∀ (tag : Byte) (p : Platform) (s : State), s.ufe.finalLost = none → s.ufe.fwd.length = 12 →
       (∀ w ∈ s.ufe.fwd, w.acc = []) →
       let change : Instr := .columnChange p
       let commit : Instr := .commitRoute tag
       let thinned (u : State) (resets : Stream → Prop) : Prop :=
         ∀ st ∈ routedStreams,
           (resets st → u.ufe.fwdAt st.id = thin (s.ufe.fwdAt st.id))
           ∧ (¬ resets st → u.ufe.fwdAt st.id = s.ufe.fwdAt st.id)
       (p = s.ufe.column → exec change s = .next (s.took change))
       ∧ (p ≠ s.ufe.column → ∃ t, exec change s = .next t ∧ kept [.ufe] s t ∧ issued change [] s t
         ∧ t.ufe = { s.ufe with column := p, fwd := t.ufe.fwd }
         ∧ thinned t fun st => (entryAt s.ufe.active st.id).awake ≠ (entryAt s.ufe.active st.id).asleep)
       ∧ (∃ t u, exec commit s = .next t ∧ replied commit tag 0x07 .ok 0xFF [] u t ∧ kept [.ufe] s u
         ∧ issued commit [] s u
         ∧ u.ufe = { s.ufe with active := s.ufe.pending, fwd := u.ufe.fwd }
         ∧ thinned u fun st => entryAt s.ufe.pending st.id ≠ entryAt s.ufe.active st.id))
  ∧ (∀ (tag : Byte) (p : Platform) (st : Stream) (s : State), transmitterSettled s →
       s.ufe.queue.length < 48 → s.ufe.lowerCount < 40 → s.ufe.fwd.length = 12 → st ∈ routedStreams →
       (s.ufe.fwdAt st.id).acc ≠ [] → (∀ other ∈ routedStreams, other ≠ st → (s.ufe.fwdAt other.id).acc = []) →
       let change : Instr := .columnChange p
       let commit : Instr := .commitRoute tag
       let queued : Ufe := s.ufe.joined (batchOf s st (s.ufe.fwdAt st.id))
       (p ≠ s.ufe.column → ∃ t, exec change s = .next t ∧ kept [.ufe] s t ∧ issued change [] s t
         ∧ t.ufe = { queued with column := p, fwd := t.ufe.fwd }
         ∧ (t.ufe.fwdAt st.id).acc = [] ∧ (t.ufe.fwdAt st.id).flush = .cancelled)
       ∧ (∃ t u, exec commit s = .next t ∧ replied commit tag 0x07 .ok 0xFF [] u t ∧ kept [.ufe] s u
         ∧ issued commit [] s u
         ∧ (entryAt s.ufe.pending st.id ≠ entryAt s.ufe.active st.id →
             u.ufe = { queued with active := s.ufe.pending, fwd := u.ufe.fwd }
             ∧ (u.ufe.fwdAt st.id).acc = [] ∧ (u.ufe.fwdAt st.id).flush = .cancelled)
         ∧ (entryAt s.ufe.pending st.id = entryAt s.ufe.active st.id →
             u.ufe = { s.ufe with active := s.ufe.pending, fwd := u.ufe.fwd }
             ∧ u.ufe.fwdAt st.id = s.ufe.fwdAt st.id)))
  ∧ (∀ (tag : Byte) (p : Platform) (s : State), lossWaits s → s.ufe.fwd.length = 12 →
       let change : Instr := .columnChange p
       let commit : Instr := .commitRoute tag
       let flushed (u : State) (st : Stream) : State :=
         if (u.ufe.fwdAt st.id).acc = [] then u
         else admitFrame (batchOf s st (u.ufe.fwdAt st.id)) (u.setUfe (emptied u st))
       let changed (st : Stream) : Bool := entryAt s.ufe.pending st.id ≠ entryAt s.ufe.active st.id
       (p ≠ s.ufe.column →
         let v := routedStreams.foldl flushed (s.took change)
         exec change s = .next (v.setUfe { v.ufe with
           column := p
           fwd := routedStreams.map fun st =>
             if (entryAt s.ufe.active st.id).awake = (entryAt s.ufe.active st.id).asleep then v.ufe.fwdAt st.id
             else thin (v.ufe.fwdAt st.id) }))
       ∧ (let v := (routedStreams.filter changed).foldl flushed (s.took commit)
          ∃ t, exec commit s = .next t
            ∧ replied commit tag 0x07 .ok 0xFF [] (v.setUfe { v.ufe with
                active := s.ufe.pending
                fwd := routedStreams.map fun st =>
                  if changed st then thin (v.ufe.fwdAt st.id) else v.ufe.fwdAt st.id }) t))

/-! ### The host link and requests (chapter 11) -/

/-- The bytes of a downstream frame, received one after another from HUNTING, leave the receiver in HUNTING and make that
frame complete: it joins the downstream queue or overruns it (R171 to R173). A byte whose stop bit is missing counts like any
other (R170).
A byte on the line is a start bit, its eight data bits from the least significant on and a stop bit, and reads back as that
byte, with the stop bit or without it; so does every byte of a frame on HL_TX (R170). That the start bit is low, and the stop
bit and a data bit of 1 are high, is the model's choice (log 38).
CHECK: the register starts at 0; a byte is added by exclusive-or and shifted left eight times, with 0x07 exclusive-ored
where a 1 falls out (R171). A list of bytes followed by its own CHECK leaves the register at 0, and no other byte does.
An upstream frame is SYNC, KIND, LEN, GAP, payload and CHECK (R171, 11.7.1). A record's payload has the fields of 11.7.6 and
its timestamp, and a RESPONSE those of 11.7.2; a batch is the count, the first and last timestamp and the records without
theirs. Codes are positions (log 17), bits not named are 0 (log 18), a charger fault without a stage has 0 (log 22), and
telemetry in FAULT has no stage (log 30). -/
def Obligations.FrameReceived : Prop :=
  (∀ (f : DownFrame) (stops : List Bool) (s : State), s.hlm.rx = [] → f.payload.length ≤ f.kind.maxLength →
     let kindByte : Byte := match f.kind with | .request => 0x40 | .dockItem => 0x41
     let body := kindByte :: byteOf f.payload.length :: f.tag :: f.payload
     let wire := 0xC3 :: body ++ [crc8 body]
     stops.length = wire.length → s.pending = List.zipWith (fun b stop => .byteReceived b stop) wire stops →
     Host.Core.run Sys2Proof.core wire.length s = .next
       (joinQueue kindByte f { s with
         hlm := { s.hlm with rx := [], gapTimer := .cancelled }
         pending := [] }))
  ∧ ((∀ b : Byte, characterBits b = [false, b.getLsbD 0, b.getLsbD 1, b.getLsbD 2, b.getLsbD 3, b.getLsbD 4,
        b.getLsbD 5, b.getLsbD 6, b.getLsbD 7, true])
     ∧ (∀ (b : Byte) (stop : Bool), readCharacter ((characterBits b).dropLast ++ [stop]) = some (.byteReceived b stop))
     ∧ (∀ (b : Byte) (s : State), exec (.byteReceived b false) s = exec (.byteReceived b true) s)
     ∧ (∀ (x : Sending) (i : Nat) (b : Byte), x.wire[i]? = some b →
         readCharacter ((x.line.drop (10 * i)).take 10) = some (.byteReceived b true)))
  ∧ (∀ (bs : List Byte) (b : Byte), crc8 (bs ++ [b]) = 0 ↔ b = crc8 bs)
  ∧ (let shift (r : Byte) : Byte := if r.getLsbD 7 then (r <<< 1) ^^^ 0x07 else r <<< 1
     crc8 [] = 0 ∧ ∀ (bs : List Byte) (b : Byte), crc8 (bs ++ [b]) = shift^[8] (crc8 bs ^^^ b))
  ∧ ((∀ x : Sending,
       let body : List Byte := [byteOf (x.frame.stream.id + if x.frame.batch then 0x20 else 0),
         byteOf x.frame.payload.length, byteOf x.gap] ++ x.frame.payload
       x.wire = 0xC3 :: body ++ [crc8 body])
     ∧ [Stream.lidSample, .baseSample, .hinge, .rotation, .posture, .key, .pointer, .dockStatus, .dockEvent, .penEvent,
         .chargeTelemetry, .lineEvent, .sleep, .response, .fault].map Stream.id = List.range 15)
  ∧ (∀ ts : Stamp,
     let laid (r : Record) (st : Stream) (bytes : List Byte) : Prop := r.stream = st ∧ r.payload = bytes ++ le16 ts.toNat
     let axes (v : Vec3) : List Byte := leInt16 v.x ++ leInt16 v.y ++ leInt16 v.z
     (∀ v, laid (.lidSample v ts) .lidSample (axes v) ∧ laid (.baseSample v ts) .baseSample (axes v))
     ∧ (∀ h q raw, laid (.hinge h q raw ts) .hinge (leAngle h ++ [byteOf q.code] ++ leAngle raw))
     ∧ (∀ old new cause, laid (.rotation old new cause ts) .rotation
         [byteOf old.code, byteOf new.code, byteOf cause.code])
     ∧ (∀ old new row h dock, laid (.posture old new row h dock ts) .posture
         ([match old with | none => 7 | some p => byteOf p.code, byteOf new.code, byteOf row]
           ++ leAngle h ++ [byteOf dock.code]))
     ∧ (∀ mark modifier codes, laid (.key mark modifier codes ts) .key
         ([flag mark, modifier, byteOf codes.length] ++ codes))
     ∧ (∀ mark dx dy buttons wheel, laid (.pointer mark dx dy buttons wheel ts) .pointer
         [flag mark, dx, dy, byteOf buttons.toNat, wheel])
     ∧ (∀ draw identity faultBits, laid (.dockStatus draw identity faultBits ts) .dockStatus
         (le16 draw ++ [identity, faultBits]))
     ∧ (∀ kind state n, laid (.dockEvent kind state n ts) .dockEvent
         [byteOf kind.code, byteOf state.code, byteOf n])
     ∧ (∀ inserted state, laid (.penEvent inserted state ts) .penEvent
         [if inserted then 0 else 1, byteOf state.code])
     ∧ (∀ state kind, ∀ duty < 1024, ∀ current < 2048, ∀ ceiling < 1024,
         laid (.chargeTelemetry state kind duty current ceiling ts) .chargeTelemetry
           ([byteOf (16 * state.code + match state with | .charging k | .paused (.charging k) _ _ => k | _ => 15),
             match (kind : Option StageKind) with | none => 0xFF | some k => byteOf k.code]
           ++ le32 (duty + 2 ^ 10 * current + 2 ^ 21 * ceiling)))
     ∧ (∀ line level, laid (.lineEvent line level ts) .lineEvent [byteOf line.code, flag level])
     ∧ (∀ reason cls, laid (.sleep (.advice reason cls) ts) .sleep ([0, byteOf reason.code] ++ le16 cls.code)
         ∧ laid (.sleep (.withdrawn reason .sleepClass) ts) .sleep [1, byteOf reason.code, 0, 0]
         ∧ ∀ a, laid (.sleep (.withdrawn reason (.activity a)) ts) .sleep ([1, byteOf reason.code] ++ le16 (1 + a.code)))
     ∧ (∀ reason set, laid (.sleep (.wake reason set) ts) .sleep ([2, byteOf reason.code] ++ le16 set.toNat))
     ∧ (∀ kind stage tag current, laid (.fault .lidPortStalled ts) .fault [0, 0, 0, 0, 0]
         ∧ laid (.fault (.charger .overcurrent stage current) ts) .fault ([1, byteOf (stage.getD 0), 0] ++ le16 current)
         ∧ laid (.fault (.charger .stageTimeout stage current) ts) .fault ([2, byteOf (stage.getD 0), 0] ++ le16 current)
         ∧ laid (.fault (.downstreamOverrun kind tag) ts) .fault [3, 0, kind, tag, 0])
     ∧ (∀ tag code status row data final, (Record.response tag code status row data final).stream = .response
         ∧ (Record.response tag code status row data final).payload = [tag, code, byteOf status.code, row] ++ data))
  ∧ (∀ (rs : List Record) (values : Record → List Byte) (time : Record → Stamp) (first last : Record),
     rs.head? = some first → rs.getLast? = some last →
     (∀ r ∈ rs, r.stream ∈ [.lidSample, .baseSample, .chargeTelemetry] ∧ r.payload = values r ++ le16 (time r).toNat) →
     batchPayload rs
       = [byteOf rs.length] ++ le16 (time first).toNat ++ le16 (time last).toNat ++ rs.flatMap values)

/-- A byte other than SYNC is discarded in HUNTING, and SYNC begins a frame with its gap timer. A KIND of neither kind, a LEN
above the kind's, and a CHECK that does not match are counted and discard the frame; a SYNC among the bytes behind the
discarded one begins another frame. The gap timer's expiry within a frame, when it is due, is counted too (R172).
A received byte is taken behind those of the frame so far. At a fault the receiver hunts again through every byte behind the
discarded SYNC, oldest first; a frame that is still partial keeps its bytes, and a complete frame is taken before the bytes
behind it (R172, R173). The gap timer of such a partial frame runs from the end of the last byte kept: R172 says so of a SYNC
found alone, and for a frame of more bytes it is the model's inference (log 23).
A complete frame stands at the tail of a queue of fewer than 8 and asserts BUSY from BUSY_ON frames on; the one frame of
an idle queue is taken up at once, a DOCK_ITEM in head state IDLE (log 24), and while a SOFT_RESET waits for its end a frame
joins the queue, also an empty one, and none is taken up (R181). A frame that meets 8 is lost: the overrun count
increases and a FAULT names its KIND and TAG (R173 to R175). Deliveries wait in flight (log 2). -/
def Obligations.FramesJoin : Prop :=
  (∀ (b len tag check : Byte) (stop : Bool) (t0 t1 t2 t3 : PartTime) (s : State),
     let now := s.partTime
     let hunting (h : Hlm) : Hlm := { h with rx := [], gapTimer := .cancelled }
     let within (h : Hlm) : Hlm := { h with rx := [⟨0xC3, now⟩], gapTimer := .running (now + 2) }
     let sync : RxByte := ⟨0xC3, t0⟩
     (s.hlm.rx = [] → b ≠ 0xC3 → exec (.byteReceived b stop) s = .next (s.setHlm (hunting s.hlm)))
     ∧ (s.hlm.rx = [] → exec (.byteReceived 0xC3 stop) s = .next (s.setHlm (within s.hlm)))
     ∧ (s.hlm.rx = [sync] → b ≠ 0x40 → b ≠ 0x41 → b ≠ 0xC3 → exec (.byteReceived b stop) s = .next
         (s.setHlm (hunting { s.hlm with kindErrors := min 65535 (s.hlm.kindErrors + 1) })))
     ∧ (s.hlm.rx = [sync] → exec (.byteReceived 0xC3 stop) s = .next
         (s.setHlm (within { s.hlm with kindErrors := min 65535 (s.hlm.kindErrors + 1) })))
     ∧ (s.hlm.rx = [sync, ⟨0x40, t1⟩] → 60 < len.toNat → len ≠ 0xC3 → exec (.byteReceived len stop) s = .next
         (s.setHlm (hunting { s.hlm with lengthErrors := min 65535 (s.hlm.lengthErrors + 1) })))
     ∧ (s.hlm.rx = [sync, ⟨0x41, t1⟩] → 16 < len.toNat → len ≠ 0xC3 → exec (.byteReceived len stop) s = .next
         (s.setHlm (hunting { s.hlm with lengthErrors := min 65535 (s.hlm.lengthErrors + 1) })))
     ∧ (s.hlm.rx = [sync, ⟨0x40, t1⟩, ⟨0, t2⟩, ⟨tag, t3⟩] → tag ≠ 0xC3 → check ≠ 0xC3 →
         check ≠ crc8 [0x40, 0, tag] → exec (.byteReceived check stop) s = .next
           (s.setHlm (hunting { s.hlm with checkErrors := min 65535 (s.hlm.checkErrors + 1) })))
     ∧ (s.hlm.gapTimer.due now = true → (∃ rest, s.hlm.rx = sync :: rest ∧ ∀ r ∈ rest, r.byte ≠ 0xC3) →
         exec .gapTimerExpiry s = .next
           (s.setHlm (hunting { s.hlm with gapErrors := min 65535 (s.hlm.gapErrors + 1) }))))
  ∧ (∀ (b : Byte) (stop : Bool) (s : State),
       exec (.byteReceived b stop) s = .next (receive (s.hlm.rx ++ [⟨b, s.partTime⟩]) s))
  ∧ (∀ (t0 : PartTime) (rest : List RxByte) (s : State), s.hlm.gapTimer.due s.partTime = true →
       s.hlm.rx = ⟨0xC3, t0⟩ :: rest → exec .gapTimerExpiry s = .next
         (receive rest (s.setHlm { s.hlm with gapErrors := min 65535 (s.hlm.gapErrors + 1) })))
  ∧ (∀ (r sync k l tag check : RxByte) (payload rest : List RxByte) (s : State), sync.byte = 0xC3 →
       let limit := if k.byte = 0x40 then 60 else 16
       let known := k.byte = 0x40 ∨ k.byte = 0x41
       let body := k.byte :: l.byte :: tag.byte :: payload.map RxByte.byte
       let frame : DownFrame :=
         ⟨if k.byte = 0x40 then .request else .dockItem, tag.byte, payload.map RxByte.byte⟩
       let partly (rx : List RxByte) (last : RxByte) : State :=
         s.setHlm { s.hlm with rx := rx, gapTimer := .running (last.time + 2) }
       receive [] s = s.setHlm { s.hlm with rx := [], gapTimer := .cancelled }
       ∧ (r.byte ≠ 0xC3 → receive (r :: rest) s = receive rest s)
       ∧ receive [sync] s = partly [sync] sync
       ∧ (known → receive [sync, k] s = partly [sync, k] k)
       ∧ (known → l.byte.toNat ≤ limit → receive [sync, k, l] s = partly [sync, k, l] l)
       ∧ (known → l.byte.toNat ≤ limit → rest.length ≤ l.byte.toNat →
           receive (sync :: k :: l :: tag :: rest) s
             = partly (sync :: k :: l :: tag :: rest) ((tag :: rest).getLastD tag))
       ∧ (¬ known → receive (sync :: k :: rest) s = receive (k :: rest)
           (s.setHlm { s.hlm with kindErrors := min 65535 (s.hlm.kindErrors + 1) }))
       ∧ (known → limit < l.byte.toNat → receive (sync :: k :: l :: rest) s = receive (k :: l :: rest)
           (s.setHlm { s.hlm with lengthErrors := min 65535 (s.hlm.lengthErrors + 1) }))
       ∧ (known → l.byte.toNat ≤ limit → payload.length = l.byte.toNat → check.byte ≠ crc8 body →
           receive (sync :: k :: l :: tag :: payload ++ check :: rest) s
             = receive (k :: l :: tag :: payload ++ check :: rest)
               (s.setHlm { s.hlm with checkErrors := min 65535 (s.hlm.checkErrors + 1) }))
       ∧ (known → l.byte.toNat ≤ limit → payload.length = l.byte.toNat → check.byte = crc8 body →
           receive (sync :: k :: l :: tag :: payload ++ check :: rest) s = receive rest (joinQueue k.byte frame s)))
  ∧ (∀ (kindByte : Byte) (f : DownFrame) (s : State),
       let h := s.hlm
       let t := joinQueue kindByte f s
       let busy := if h.busyOn ≤ h.queue.length + 1 then true else h.busy
       (8 ≤ h.queue.length → kept [.hlm] s t ∧ t.hlm = { h with overruns := min 65535 (h.overruns + 1) }
         ∧ t.inflight = s.inflight
           ++ [.recordOffer (.fault (.downstreamOverrun kindByte f.tag) (s.partTime.setWidth 16))])
       ∧ (h.queue.length < 8 → h.queue ≠ [] →
         kept [.hlm] s t ∧ t.hlm = { h with queue := h.queue ++ [f], busy := busy } ∧ t.inflight = s.inflight)
       ∧ (h.queue = [] → h.head = .idle →
         kept [.hlm] s t ∧ t.inflight = s.inflight ++ [f.command]
         ∧ t.hlm = { h with queue := [f], busy := busy, head := if f.kind = .request then .executing else .idle })
       ∧ (h.queue = [] → h.head ≠ .idle →
         kept [.hlm] s t ∧ t.hlm = { h with queue := [f], busy := busy } ∧ t.inflight = s.inflight))

/-- What the checks of a WRITE_ROWS find: the length first, then start and count, then the lowest faulty row; with no fault,
every row in order (R176, R179).
A WRITE_ROWS refused by its checks writes nothing and is answered with the status, or with REFUSED_ROW and the lowest
faulty index. One that passes replaces the rows it names, in the pending bank of a banked table, and is answered OK (R13,
R39, R81, R106, R133, R157, R179). A written action row that changes the level of AL0 gives the dock link that level
(R101, R106), which waits in flight (log 2). -/
def Obligations.RowsWritten : Prop :=
  (∀ (α : Type) (read : Nat → List Byte → Option α) (size tableSize : Nat) (start count : Byte) (bytes : List Byte),
     let found := checkRows read size tableSize start count bytes
     let n := count.toNat
     let row (i : Nat) : Option α := read (start.toNat + i) ((bytes.drop (i * size)).take size)
     let inRange := 0 < n ∧ start.toNat + n ≤ tableSize ∧ n * size ≤ 56
     (bytes.length ≠ n * size → found = .refused .badRequest)
     ∧ (bytes.length = n * size → ¬ inRange → found = .refused .badIndex)
     ∧ (∀ k, bytes.length = n * size → inRange → k < n → row k = none → (∀ i < k, (row i).isSome = true) →
         found = .faulty (start.toNat + k))
     ∧ (bytes.length = n * size → inRange → (∀ i < n, (row i).isSome = true) →
         ∃ rs, found = .rows rs ∧ rs.length = n ∧ ∀ i < n, rs[i]? = row i))
  ∧ (∀ (tag start count : Byte) (rows : List Byte) (s : State),
       let lid : Instr := .writeRowsMountLid tag start count rows
       let base : Instr := .writeRowsMountBase tag start count rows
       let posture : Instr := .writeRowsPosture tag start count rows
       let route : Instr := .writeRowsRoute tag start count rows
       let profile : Instr := .writeRowsProfile tag start count rows
       let action : Instr := .writeRowsAction tag start count rows
       let stopped {α : Type} (c : Instr) (found : RowCheck α) : Prop := ∃ t, exec c s = .next t ∧
         match found with
         | .refused st => replied c tag 0x05 st 0xFF [] (s.took c) t
         | .faulty i => replied c tag 0x05 .refusedRow (byteOf i) [] (s.took c) t
         | .rows _ => True
       (stopped lid (checkRows readMount 10 1 start count rows)
         ∧ stopped base (checkRows readMount 10 1 start count rows)
         ∧ stopped posture (checkRows readPostureRow 23 16 start count rows)
         ∧ stopped route (checkRows readRouteEntry 16 12 start count rows)
         ∧ stopped profile (checkRows readProfileRow 10 6 start count rows)
         ∧ stopped action (checkRows readActionLine 9 4 start count rows))
       ∧ (∀ m, checkRows readMount 10 1 start count rows = .rows [m] →
         (∃ t, exec lid s = .next t
           ∧ replied lid tag 0x05 .ok 0xFF [] ((s.took lid).setLsp { s.lsp with mount := m }) t)
         ∧ (∃ t, exec base s = .next t
           ∧ replied base tag 0x05 .ok 0xFF [] ((s.took base).setDlc { s.dlc with
               mount := m
               idMatch := match s.dlc.identity with
                 | none => .unknown
                 | some b => if b = m.identity then .matched else .mismatched }) t))
       ∧ (∀ rs, checkRows readPostureRow 23 16 start count rows = .rows rs →
         ∃ t, exec posture s = .next t
           ∧ replied posture tag 0x05 .ok 0xFF []
             ((s.took posture).setPcl { s.pcl with pending := replaceRows s.pcl.pending start.toNat rs }) t)
       ∧ (∀ rs, checkRows readRouteEntry 16 12 start count rows = .rows rs →
         ∃ t, exec route s = .next t
           ∧ replied route tag 0x05 .ok 0xFF []
             ((s.took route).setUfe { s.ufe with pending := replaceRows s.ufe.pending start.toNat rs }) t)
       ∧ (∀ rs, checkRows readProfileRow 10 6 start count rows = .rows rs →
         ∃ t, exec profile s = .next t
           ∧ replied profile tag 0x05 .ok 0xFF []
             ((s.took profile).setPch { s.pch with pending := replaceRows s.pch.pending start.toNat rs }) t)
       ∧ (∀ rs, checkRows readActionLine 9 4 start count rows = .rows rs →
         ∃ t u, exec action s = .next t ∧ replied action tag 0x05 .ok 0xFF [] u t ∧ kept [.alu] s u
           ∧ (∀ i < 4, u.alu.get i =
             if start.toNat ≤ i ∧ i < start.toNat + rs.length then (rs[i - start.toNat]?).getD (s.alu.get i)
             else s.alu.get i)
           ∧ issued action (if u.alu.al0.level = s.alu.al0.level then [] else [.al0LevelDelivery u.alu.al0.level]) s u))

/-- A request's payload, as 11.7.2 lays it out, is taken as that request; any other payload is taken as the request that is
answered BAD_REQUEST (log 31) (R176, R179, 11.7.2). -/
def Obligations.RequestsDecoded : Prop :=
  (∀ (c : Instr) (tag : Byte) (payload : List Byte), requestBytes c = some (tag, payload) →
    requestCommand tag payload = c)
  ∧ (∀ (tag : Byte) (payload : List Byte), (∀ c, requestBytes c ≠ some (tag, payload)) →
    requestCommand tag payload = .requestUnknownCode tag payload)

/-- Table rows read back as they are encoded, whatever the bytes behind a presence byte of 0 hold: they are sent with values
the manual does not state (log 7), and disregarded on reading (log 12). An action line
is read armed exactly when its mode is TRIGGERED (R13, R81, R106, R133, R157, 11.7.3).
A row holds its fields in the order of its table (11.7.3): a mount record, a posture row, a route entry, a profile row and an
action line, whose armed field stands last. The values are laid out as 11.7 sets out: little-endian and two's complement, a
yes/no as 1 or 0, an UNKNOWN or absent angle as 0xFFFF, an UNKNOWN posture as 7, and an enumeration as its position in its
chapter's list, a hall condition included (log 17); the last-error kinds and the charger states as 11.7.5 numbers them. -/
def Obligations.RowsReadBack : Prop :=
  (∀ (i : Nat) (m : Mount), isPermutation m.srcX.axis m.srcY.axis m.srcZ.axis = true → m.identity ≠ 0x00 →
    m.identity ≠ 0xFF → (∀ o ∈ [m.offset.x, m.offset.y, m.offset.z], -2048 ≤ o ∧ o ≤ 2047) →
    readMount i m.bytes = some m)
  ∧ (∀ (free pos i : Nat) (r : PostureRow), (∀ h ∈ r.hinge, h.1 ≤ h.2 ∧ h.2 ≤ 5760) → r.dwell ≤ 5000 →
    r.face ≠ some .unknown → readPostureRow i (r.bytes free pos) = some r)
  ∧ (∀ (free pos st : Nat) (e : RouteEntry),
    (∀ c ∈ [e.awake, e.asleep], actionAllowed st c.action = true ∧ match c.action with
      | .decimate n => 2 ≤ n ∧ n ≤ 64
      | .changeOnly d m => d ≤ 4095 ∧ 1 ≤ m ∧ m ≤ 255
      | .batch b f => 2 ≤ b ∧ b ≤ 8 ∧ 1 ≤ f ∧ f ≤ 1000
      | _ => True) →
    readRouteEntry st (e.bytes free pos) = some e)
  ∧ (∀ (free pos i : Nat) (r : ProfileRow), 10 ≤ r.target → r.target ≤ 1500 → 1 ≤ r.limit → r.limit ≤ 65535 →
    (∀ e ∈ r.exitBelow, 5 ≤ e ∧ e ≤ 1000) → (i = 0 → r.inUse = true) →
    readProfileRow i (r.bytes free pos) = some r)
  ∧ (∀ (free pos i : Nat) (l : ActionLine),
    readActionLine i (l.bytes free pos) = some { l with armed := l.mode = .triggered })
  ∧ (∀ free pos : Nat,
     let opt (at_ n : Nat) (value : Option (List Byte)) : List Byte := match value with
       | some bytes => 1 :: bytes
       | none => 0 :: (List.range n).map fun i => Config.freeByte free (pos + at_ + i)
     let hall (asserted : Bool) : List Byte := if asserted then [0] else [1]
     let column (at_ : Nat) (c : RouteColumn) : List Byte :=
       let two (code : Byte) (p q : Option (List Byte)) : List Byte :=
         [code, byteOf c.cls.code] ++ opt (at_ + 3) 2 p ++ opt (at_ + 6) 2 q
       match c.action with
       | .pass => two 0 none none
       | .drop => two 1 none none
       | .decimate n => two 2 (some (le16 n)) none
       | .changeOnly deadband maxHold => two 3 (some (le16 deadband)) (some (le16 maxHold))
       | .batch block flush => two 4 (some (le16 block)) (some (le16 flush))
     (∀ m : Mount, m.bytes = [byteOf m.srcX.code, byteOf m.srcY.code, byteOf m.srcZ.code]
         ++ leInt16 m.offset.x ++ leInt16 m.offset.y ++ leInt16 m.offset.z ++ [m.identity])
     ∧ (∀ r : PostureRow, r.bytes free pos = [flag r.inUse, byteOf r.posture.code]
         ++ opt 3 4 (r.hinge.map fun h => le16 h.1 ++ le16 h.2) ++ [flag r.needGood]
         ++ opt 9 1 (r.dock.map fun c => [byteOf c.code]) ++ opt 11 1 (r.front.map hall) ++ opt 13 1 (r.rear.map hall)
         ++ opt 15 1 (r.face.map fun f => [byteOf f.code]) ++ le16 r.dwell
         ++ [byteOf r.out.keyGate.code, byteOf r.out.pointerGate.code, byteOf r.out.policy.code,
             byteOf r.out.allowance.code, byteOf r.out.sleep.code])
     ∧ (∀ e : RouteEntry, e.bytes free pos = column 0 e.awake ++ column 8 e.asleep)
     ∧ (∀ r : ProfileRow, r.bytes free pos = [flag r.inUse, byteOf r.kind.code] ++ le16 r.target ++ le16 r.limit
         ++ [byteOf r.action.code] ++ opt 8 2 (r.exitBelow.map le16))
     ∧ (∀ l : ActionLine, l.bytes free pos = [flag l.invert, byteOf l.mode.code, flag l.level, flag l.staged]
         ++ (match l.trigger with
             | .postureLeave p => [0, 1, byteOf p.code]
             | .postureEnter p => [1, 1, byteOf p.code]
             | kind => byteOf kind.code :: opt 6 1 none)
         ++ [byteOf l.rearm.code, flag l.armed]))
  ∧ ((∀ n : Nat, byteOf n = BitVec.ofNat 8 n ∧ le16 n = [byteOf n, byteOf (n / 256)]
         ∧ le32 n = [byteOf n, byteOf (n / 256), byteOf (n / 65536), byteOf (n / 16777216)])
     ∧ (∀ v : Int, leInt16 v = le16 (v % 2 ^ 16).toNat ∧ leInt32 v = le32 (v % 2 ^ 32).toNat)
     ∧ flag true = 1 ∧ flag false = 0 ∧ leAngle none = [0xFF, 0xFF] ∧ (∀ a : Nat, leAngle (some a) = le16 a)
     ∧ postureByte none = 7 ∧ (∀ p : Posture, postureByte (some p) = byteOf p.code)
     ∧ (∀ (free pos n : Nat) (bytes : List Byte), Machine.optional free pos n (some bytes) = 1 :: bytes
         ∧ Machine.optional free pos n none = 0 :: fillers free pos n
         ∧ fillers free pos n = (List.range n).map fun i => Config.freeByte free (pos + i)))
  ∧ (let coded {α : Type} (code : α → Nat) (values : List α) : Prop := values.map code = List.range values.length
     coded Source.code [⟨.x, false⟩, ⟨.x, true⟩, ⟨.y, false⟩, ⟨.y, true⟩, ⟨.z, false⟩, ⟨.z, true⟩]
     ∧ coded Line.code [.frontHall, .rearHall, .dockContact, .penContact]
     ∧ coded PortState.code [.running, .stalled, .off] ∧ coded ReadOutcome.code [.none, .good, .noNewData, .idMismatch]
     ∧ coded DockState.code [.absent, .unpowered, .attaching, .attached, .mute]
     ∧ coded IdMatch.code [.unknown, .matched, .mismatched] ∧ coded Gate.code [.pass, .block]
     ∧ coded DockEventKind.code [.attached, .mute, .recovered, .detached, .unpowered, .itemsDropped]
     ∧ coded Quality.code [.noData, .good, .moving, .axisVertical, .stale, .hallConflict, .noBase]
     ∧ coded BaseFace.code [.up, .down, .edge, .unknown] ∧ coded Rot.code [.rot0, .rot90, .rot180, .rot270]
     ∧ coded RotCause.code [.dwell, .forced] ∧ coded Policy.code [.free, .hold, .forceRot0]
     ∧ coded Posture.code [.closed, .laptop, .flat, .stand, .tent, .tablet, .slate]
     ∧ coded Allowance.code [.allow, .reduced, .deny] ∧ coded SleepClass.code [.none, .idle, .closed]
     ∧ coded DockCondition.code [.attached, .notAttached] ∧ coded LineMode.code [.direct, .triggered]
     ∧ coded Rearm.code [.once, .every]
     ∧ (∀ p q : Posture, coded Trigger.code [.postureLeave p, .postureEnter q, .platformAsleep, .platformAwake,
         .dockAttached, .dockAbsent, .penInserted, .chargerFault])
     ∧ coded StageKind.code [.precharge, .bulk, .taper, .topup] ∧ coded LimitAction.code [.next, .fault]
     ∧ coded Platform.code [.awake, .asleep] ∧ coded AdviceReason.code [.lidClosed, .idle]
     ∧ coded Activity.code [.key, .pointer, .posture, .rotation, .dock, .pen, .motion]
     ∧ coded WakeReason.code [.lidOpened, .key, .pointer, .dockAttached, .dockDetached, .penInserted, .penRemoved,
         .motion, .recentActivity]
     ∧ coded FrameClass.code [.high, .normal, .low]
     ∧ coded HeadState.code [.idle, .executing, .waitingForDockRoom, .resetting]
     ∧ coded Status.code [.ok, .adjusted, .refusedRow, .badRequest, .badIndex, .badState]
     ∧ FailKind.miss.code = 1 ∧ FailKind.corrupt.code = 2 ∧ FailKind.malformed.code = 3
     ∧ (∀ (k : Nat) (deny budget : Bool) (stage : Option Nat),
         coded ChargerState.code [.empty, .probe, .charging k, .done, .paused .probe deny budget,
           .paused (.charging k) deny budget, .fault .overcurrent stage, .fault .stageTimeout stage]))

/-- A row is read exactly when each of its fields holds a value that its table lists, so every structural fault is refused: a
mount record (R13, R39), a posture row (R81), a route entry, whose second parameter under DECIMATE is a fault (log 13)
(R157), a profile row, of which row 0 is in use (R133), and an action line, whose armed byte is disregarded (R106). Bytes
behind a presence byte of 0 are disregarded (log 12) (11.7.3). -/
def Obligations.RowFaults : Prop :=
  let word (lo hi : Byte) : Nat := lo.toNat + 256 * hi.toNat
  let optional (presence : Byte) (fits : Prop) : Prop := presence = 0 ∨ presence = 1 ∧ fits
  (∀ (i : Nat) (sx sy sz x0 x1 y0 y1 z0 z1 ident : Byte),
    let offset (lo hi : Byte) : Int := if hi.toNat < 128 then word lo hi else (word lo hi : Int) - 65536
    let fits (lo hi : Byte) : Prop := -2048 ≤ offset lo hi ∧ offset lo hi ≤ 2047
    (readMount i [sx, sy, sz, x0, x1, y0, y1, z0, z1, ident]).isSome = true ↔
      sx.toNat < 6 ∧ sy.toNat < 6 ∧ sz.toNat < 6
      ∧ sx.toNat / 2 ≠ sy.toNat / 2 ∧ sy.toNat / 2 ≠ sz.toNat / 2 ∧ sx.toNat / 2 ≠ sz.toNat / 2
      ∧ fits x0 x1 ∧ fits y0 y1 ∧ fits z0 z1 ∧ ident ≠ 0x00 ∧ ident ≠ 0xFF)
  ∧ (∀ (i : Nat) (use post hp l0 l1 h0 h1 good dp dc fp fc rp rc bp bc d0 d1 kg pg rot al sl : Byte),
    (readPostureRow i
      [use, post, hp, l0, l1, h0, h1, good, dp, dc, fp, fc, rp, rc, bp, bc, d0, d1, kg, pg, rot, al, sl]).isSome = true ↔
      use.toNat < 2 ∧ post.toNat < 7 ∧ optional hp (word l0 l1 ≤ word h0 h1 ∧ word h0 h1 ≤ 5760) ∧ good.toNat < 2
      ∧ optional dp (dc.toNat < 2) ∧ optional fp (fc.toNat < 2) ∧ optional rp (rc.toNat < 2)
      ∧ optional bp (bc.toNat < 3) ∧ word d0 d1 ≤ 5000 ∧ kg.toNat < 2 ∧ pg.toNat < 2 ∧ rot.toNat < 3 ∧ al.toNat < 3
      ∧ sl.toNat < 3)
  ∧ (∀ (st : Nat) (a c p p0 p1 q q0 q1 a' c' p' p0' p1' q' q0' q1' : Byte),
    let column (a c p p0 p1 q q0 q1 : Byte) : Prop := c.toNat < 3 ∧ match a.toNat with
      | 0 => p = 0 ∧ q = 0
      | 1 => p = 0 ∧ q = 0
      | 2 => p = 1 ∧ q = 0 ∧ 2 ≤ word p0 p1 ∧ word p0 p1 ≤ 64 ∧ st ≠ 4
      | 3 => p = 1 ∧ q = 1 ∧ word p0 p1 ≤ 4095 ∧ 1 ≤ word q0 q1 ∧ word q0 q1 ≤ 255 ∧ st ∈ [0, 1, 2, 7, 10]
      | 4 => p = 1 ∧ q = 1 ∧ 2 ≤ word p0 p1 ∧ word p0 p1 ≤ 8 ∧ 1 ≤ word q0 q1 ∧ word q0 q1 ≤ 1000 ∧ st ∈ [0, 1, 10]
      | _ => False
    (readRouteEntry st [a, c, p, p0, p1, q, q0, q1, a', c', p', p0', p1', q', q0', q1']).isSome = true ↔
      column a c p p0 p1 q q0 q1 ∧ column a' c' p' p0' p1' q' q0' q1')
  ∧ (∀ (i : Nat) (use kind t0 t1 l0 l1 act ep e0 e1 : Byte),
    (readProfileRow i [use, kind, t0, t1, l0, l1, act, ep, e0, e1]).isSome = true ↔
      use.toNat < 2 ∧ kind.toNat < 4 ∧ 10 ≤ word t0 t1 ∧ word t0 t1 ≤ 1500 ∧ 1 ≤ word l0 l1 ∧ act.toNat < 2
      ∧ optional ep (5 ≤ word e0 e1 ∧ word e0 e1 ≤ 1000) ∧ (i = 0 → use = 1))
  ∧ (∀ (i : Nat) (inv mode level staged kind present post rearm armed : Byte),
    (readActionLine i [inv, mode, level, staged, kind, present, post, rearm, armed]).isSome = true ↔
      inv.toNat < 2 ∧ mode.toNat < 2 ∧ level.toNat < 2 ∧ staged.toNat < 2 ∧ rearm.toNat < 2
      ∧ (kind.toNat < 2 ∧ present = 1 ∧ post.toNat < 7 ∨ 2 ≤ kind.toNat ∧ kind.toNat < 8 ∧ present = 0))
  ∧ (∀ (i : Nat) (bs : List Byte),
    (bs.length ≠ 10 → readMount i bs = none ∧ readProfileRow i bs = none)
    ∧ (bs.length ≠ 23 → readPostureRow i bs = none) ∧ (bs.length ≠ 16 → readRouteEntry i bs = none)
    ∧ (bs.length ≠ 9 → readActionLine i bs = none))

/-- SET_PARAM applies the value clamped to the parameter's range, with its special rules, to that parameter alone (BUSY_ON
may also lower BUSY_OFF), and is answered with the value then in force, ADJUSTED when it was clamped; an unknown id is
BAD_INDEX, answered with no data (log 19). GET_PARAM returns the value in force (R177, R174).
What a SET_PARAM does beside setting its value: a line's agreement count restarts with its level kept, a supply
parameter makes a recomputation with its hand-over to the charger, and DOCK_DEFAULT_DRAW recomputes the draw, in every dock
state, with its delivery; IDLE_TIMEOUT of 0 cancels the idle timer, and BUSY is judged anew under BUSY_ON and BUSY_OFF (R3,
R35, R112 to R116, R152, R174). Nothing else of the part changes. -/
def Obligations.ParametersSet : Prop :=
  (∀ (tag id : Byte) (value : BitVec 32) (s : State), 2 ≤ s.hlm.busyOn →
     let set : Instr := .setParam tag id value
     let get : Instr := .getParam tag id
     let v := value.toInt
     (paramOf id = none →
       (∃ t, exec set s = .next t ∧ replied set tag 0x03 .badIndex 0xFF [] (s.took set) t)
       ∧ (∃ t, exec get s = .next t ∧ replied get tag 0x04 .badIndex 0xFF [] (s.took get) t))
     ∧ (∀ p, paramOf id = some p →
       let applied : Int := if p = .idleTimeout then (if v ≤ 0 then 0 else max 5 (min v 3600))
         else if p = .busyOff then max 0 (min v ((s.hlm.busyOn : Int) - 1))
         else max p.range.1 (min v p.range.2)
       let lowers := p = .busyOn ∧ applied ≤ s.hlm.busyOff
       (∃ t u, exec set s = .next t
         ∧ replied set tag 0x03 (if applied = v ∧ ¬ lowers then .ok else .adjusted) 0xFF (leInt32 applied) u t
         ∧ p.get u = applied
         ∧ (∀ q, q ≠ p → ¬ (p = .busyOn ∧ q = .busyOff) → q.get u = q.get s)
         ∧ (p = .busyOn → (u.hlm.busyOff : Int) = min (s.hlm.busyOff : Int) (applied - 1))
         ∧ u.pcl = s.pcl ∧ u.alu = s.alu ∧ u.ufe = s.ufe ∧ u.partTime = s.partTime)
       ∧ (∃ t, exec get s = .next t ∧ replied get tag 0x04 .ok 0xFF (leInt32 (p.get s)) (s.took get) t)))
  ∧ (∀ (tag id : Byte) (value : BitVec 32) (p : Param) (s : State), paramOf id = some p →
       let c : Instr := .setParam tag id value
       let filter (f g : LineFilter) (ps : List Param) : Prop :=
         g = { f with stages := g.stages, activeLow := g.activeLow, count := if p ∈ ps then 0 else f.count }
       let supply := p ∈ [Param.railLimit, .railReserve, .coilFull, .dutyMax, .coilMin]
       ∃ t u, exec c s = .next t ∧ (∃ status data, replied c tag 0x03 status 0xFF data u t)
         ∧ filter s.lif.frontHall u.lif.frontHall [.frontHallStages, .frontHallPolarity]
         ∧ filter s.lif.rearHall u.lif.rearHall [.rearHallStages, .rearHallPolarity]
         ∧ filter s.lif.dockContact u.lif.dockContact [.dockContactStages, .dockContactPolarity]
         ∧ filter s.lif.penContact u.lif.penContact [.penContactStages, .penContactPolarity]
         ∧ u.lsp = { s.lsp with samplePeriod := u.lsp.samplePeriod }
         ∧ u.dlc = { s.dlc with
             pollPeriod := u.dlc.pollPeriod, answerTimeout := u.dlc.answerTimeout, attachTimeout := u.dlc.attachTimeout
             missLimit := u.dlc.missLimit, defaultDraw := u.dlc.defaultDraw
             draw := if p ≠ .dockDefaultDraw then s.dlc.draw else match s.dlc.state with
               | .absent => 0
               | .unpowered => 0
               | .attaching => u.dlc.defaultDraw
               | _ => if s.dlc.statusSeen then s.dlc.statusDraw else u.dlc.defaultDraw }
         ∧ u.hae = { s.hae with
             filterShift := u.hae.filterShift, motionThreshold := u.hae.motionThreshold
             motionIsActivity := u.hae.motionIsActivity, projectionMin := u.hae.projectionMin, hingeCal := u.hae.hingeCal
             hingeDeadband := u.hae.hingeDeadband, faceT := u.hae.faceT }
         ∧ u.rot = { s.rot with rotMin := u.rot.rotMin, rotHyst := u.rot.rotHyst, rotDwell := u.rot.rotDwell }
         ∧ u.pcl = s.pcl ∧ u.alu = s.alu
         ∧ (¬ supply → u.ssu = s.ssu)
         ∧ (supply →
             let budget := u.ssu.railLimit - u.ssu.railReserve - s.ssu.draw
             let ceiling := match s.ssu.allowance with | .allow => budget | .reduced => budget / 2 | .deny => 0
             u.ssu = { s.ssu with
               railLimit := u.ssu.railLimit, railReserve := u.ssu.railReserve, coilFull := u.ssu.coilFull
               dutyMax := u.ssu.dutyMax, coilMin := u.ssu.coilMin, railBudget := budget, coilCeiling := ceiling
               dutyCeiling := min (ceiling * 1024 / u.ssu.coilFull) u.ssu.dutyMax
               budgetPause := if s.ssu.allowance = .deny then s.ssu.budgetPause
                 else if ceiling < u.ssu.coilMin then true
                 else if u.ssu.coilMin + 50 ≤ ceiling then false else s.ssu.budgetPause })
         ∧ u.pch = { s.pch with
             regInterval := u.pch.regInterval, probeMin := u.pch.probeMin, regBand := u.pch.regBand
             regStep := u.pch.regStep, ocLimit := u.pch.ocLimit, rechargeInterval := u.pch.rechargeInterval }
         ∧ u.swa = { s.swa with
             idleTimeout := u.swa.idleTimeout, closedHold := u.swa.closedHold, wakeGuard := u.swa.wakeGuard
             wakeMask := u.swa.wakeMask
             idleTimer := if p = .idleTimeout ∧ u.swa.idleTimeout = 0 then .cancelled else s.swa.idleTimer }
         ∧ u.ufe = s.ufe
         ∧ u.hlm = { s.hlm with busyOn := u.hlm.busyOn, busyOff := u.hlm.busyOff, busy := u.hlm.busy }
         ∧ (p ≠ .busyOn → p ≠ .busyOff → u.hlm.busy = s.hlm.busy)
         ∧ (p = .busyOn ∨ p = .busyOff →
             (u.hlm.busyOn ≤ s.hlm.queue.length → u.hlm.busy = true)
             ∧ (s.hlm.queue.length < u.hlm.busyOn → s.hlm.queue.length ≤ u.hlm.busyOff → u.hlm.busy = false)
             ∧ (s.hlm.queue.length < u.hlm.busyOn → u.hlm.busyOff < s.hlm.queue.length → u.hlm.busy = s.hlm.busy))
         ∧ u.partTime = s.partTime ∧ u.freeCount = s.freeCount ∧ u.pending = s.pending
         ∧ issued c
           ((if u.dlc.draw = s.dlc.draw then [] else [.drawDelivery u.dlc.draw])
             ++ (if u.ssu.dutyCeiling = s.ssu.dutyCeiling ∧ u.ssu.budgetPause = s.ssu.budgetPause then []
                 else [.ssuResultDelivery s.ssu.allowance u.ssu.dutyCeiling u.ssu.budgetPause])) s u)

/-- The requests that read are answered with their data and change nothing else of the part; those with a section, a bank
or an index out of range are BAD_INDEX, an unknown table and an unknown request BAD_REQUEST, with no data (log 19). An answer of GET_STATUS or
READ_ROWS uses one number of the counter of free values (log 7). CLEAR of LINK_ERRORS empties
the five counts and the last lost TAG (R176, R178 to R180).
The status sections 1 to 11 hold the fields of 11.7.5 in its order, each an absent one with unstated values (log 7), so that
each has the size 11.7.5 gives it, and no other section has data (R178). Bits that 11.7.5 does not name are 0 (log 18); the
reasons are 0 outside PAUSED (log 22), and the stage in FAULT is the one it was entered from (log 30). READ_ROWS gives the
rows asked for, one after another, of the mount records, of the active or the pending bank, or of the action lines (R179).
The values and codes are those of 11.7 (log 17). -/
def Obligations.ReadRequests : Prop :=
  (∀ (tag sect table bank start count : Byte) (payload : List Byte) (s : State),
     let identify : Instr := .identify tag
     let status : Instr := .getStatus tag sect
     let read : Instr := .readRows tag table bank start count
     let clear : Instr := .clearLinkErrors tag
     let unknown : Instr := .requestUnknownCode tag payload
     (∃ t, exec identify s = .next t ∧ replied identify tag 0x01 .ok 0xFF
       [0xC7, 0x00, 0x20, 0x06, 1, 48, 40, 8, 4, 16, 12, 6, 4] (s.took identify) t)
     ∧ (∃ t, exec status s = .next t
       ∧ (∀ data, statusSection s sect.toNat = some data →
           replied status tag 0x02 .ok 0xFF data (s.took status).freeUsed t)
       ∧ (statusSection s sect.toNat = none → replied status tag 0x02 .badIndex 0xFF [] (s.took status) t))
     ∧ (∃ t, exec read s = .next t
       ∧ (6 ≤ table.toNat → replied read tag 0x06 .badRequest 0xFF [] (s.took read) t)
       ∧ (∀ size rows banked, (table, size, rows, banked) ∈ ([ (0, 10, 1, false), (1, 10, 1, false), (2, 23, 16, true),
             (3, 16, 12, true), (4, 10, 6, true), (5, 9, 4, false) ] : List (Byte × Nat × Nat × Bool)) →
           let inRange := count.toNat ≠ 0 ∧ start.toNat + count.toNat ≤ rows ∧ count.toNat * size ≤ 56
             ∧ (bank = 0 ∨ bank = 1 ∧ banked = true)
           let held : List (Nat → List Byte) := match table.toNat with
             | 0 => [fun _ => s.lsp.mount.bytes]
             | 1 => [fun _ => s.dlc.mount.bytes]
             | 2 => (if bank = 0 then s.pcl.active else s.pcl.pending).map fun r pos => r.bytes s.freeCount pos
             | 3 => (if bank = 0 then s.ufe.active else s.ufe.pending).map fun r pos => r.bytes s.freeCount pos
             | 4 => (if bank = 0 then s.pch.active else s.pch.pending).map fun r pos => r.bytes s.freeCount pos
             | _ => [s.alu.al0, s.alu.al1, s.alu.al2, s.alu.al3].map fun r pos => r.bytes s.freeCount pos
           let data := ((held.drop start.toNat).take count.toNat).zipIdx.flatMap fun row => row.1 (row.2 * size)
           (inRange → replied read tag 0x06 .ok 0xFF data (s.took read).freeUsed t)
           ∧ (¬ inRange → replied read tag 0x06 .badIndex 0xFF [] (s.took read) t)))
     ∧ (∃ t, exec clear s = .next t ∧ replied clear tag 0x0B .ok 0xFF [] ((s.took clear).setHlm { s.hlm with
         checkErrors := 0, kindErrors := 0, lengthErrors := 0, gapErrors := 0, overruns := 0, lastLost := none }) t)
     ∧ (∃ t, exec unknown s = .next t
       ∧ replied unknown tag (payload.headD 0x00) .badRequest 0xFF [] (s.took unknown) t))
  ∧ (∀ s : State, s.ufe.gaps.length = 15 → s.ufe.fwd.length = 12 →
       (∀ n, n = 0 ∨ 12 ≤ n → statusSection s n = none)
       ∧ [1, 2, 3, 4, 5, 6, 7, 8, 9, 10, 11].map (fun n => (statusSection s n).map List.length)
         = [13, 29, 23, 6, 10, 8, 10, 17, 10, 37, 15].map some)
  ∧ (∀ s : State,
       let bit (b : Bool) (n : Nat) : Nat := if b then 2 ^ n else 0
       let free (pos n : Nat) : List Byte := fillers s.freeCount pos n
       let opt (pos n : Nat) (value : Option (List Byte)) : List Byte := Machine.optional s.freeCount pos n value
       let none? (i : Option Nat) : Byte := match i with | none => 0xFF | some n => byteOf n
       let sample (p : Sample) : List Byte := leInt16 p.v.x ++ leInt16 p.v.y ++ leInt16 p.v.z ++ le16 p.time.toNat
       let vector (f : Filtered) : List Byte := leInt16 f.v.x ++ leInt16 f.v.y ++ leInt16 f.v.z
       let count (c : FrameClass) : Byte := byteOf (s.ufe.queue.filter fun f => f.cls = c).length
       statusSection s 1 = some
         ([byteOf (bit s.lif.frontHall.level 0 + bit s.lif.rearHall.level 1 + bit s.lif.dockContact.level 2
             + bit s.lif.penContact.level 3),
           byteOf s.lsp.port.code, byteOf s.lsp.streak, byteOf s.lsp.outcome.code]
         ++ opt 5 8 (s.lsp.last.map sample))
       ∧ statusSection s 2 = some
         ([byteOf s.dlc.state.code, byteOf s.dlc.missStreak]
         ++ (match s.dlc.lastError with
             | none => 0 :: free 3 5
             | some e => [byteOf e.kind.code, e.poll] ++ le32 e.time.toNat)
         ++ [s.dlc.nextPoll, byteOf s.dlc.queue.length]
         ++ (match s.dlc.queue with | [] => free 10 1 | item :: _ => [byteOf item.offers])
         ++ [byteOf s.dlc.undelivered] ++ le16 s.dlc.draw ++ opt 15 1 (s.dlc.identity.map fun b => [b])
         ++ [s.dlc.faultBits, byteOf s.dlc.idMatch.code,
             flag (decide (s.dlc.heldModifier ≠ 0 ∨ s.dlc.heldCodes ≠ [])), byteOf s.dlc.heldButtons.toNat]
         ++ opt 21 8 (s.dlc.lastBase.map sample))
       ∧ statusSection s 3 = some
         (opt 1 6 (s.hae.lid.map vector) ++ opt 8 6 (s.hae.base.map vector)
         ++ [byteOf (bit s.hae.lidMoving 0 + bit s.hae.baseMoving 1)]
         ++ leAngle s.hae.raw ++ leAngle s.hae.tracked ++ leAngle s.hae.reported
         ++ [byteOf s.hae.quality.code, byteOf s.hae.face.code])
       ∧ statusSection s 4 = some
         ([byteOf s.rot.rot.code, none? (s.rot.candidate.map Rot.code), flag s.rot.lock, byteOf s.rot.policy.code]
         ++ leAngle s.rot.angle)
       ∧ statusSection s 5 = some
         [postureByte s.pcl.posture, none? s.pcl.row, none? s.pcl.candidate,
          none? (s.pcl.candidate.bind fun i => (s.pcl.active[i]?).map fun r => r.posture.code), flag s.pcl.noMatch,
          byteOf s.pcl.published.keyGate.code, byteOf s.pcl.published.pointerGate.code,
          byteOf s.pcl.published.policy.code, byteOf s.pcl.published.allowance.code,
          byteOf s.pcl.published.sleep.code]
       ∧ statusSection s 6 = some
         [flag s.alu.al0.level, flag s.alu.al0.armed, flag s.alu.al1.level, flag s.alu.al1.armed,
          flag s.alu.al2.level, flag s.alu.al2.armed, flag s.alu.al3.level, flag s.alu.al3.armed]
       ∧ statusSection s 7 = some
         (le16 s.ssu.draw ++ [byteOf s.ssu.allowance.code] ++ le16 s.ssu.railBudget ++ le16 s.ssu.coilCeiling
         ++ le16 s.ssu.dutyCeiling ++ [flag s.ssu.budgetPause])
       ∧ statusSection s 8 = some
         ([byteOf s.pch.state.code,
           match s.pch.state with | .paused _ deny budget => byteOf (bit deny 0 + bit budget 1) | _ => 0]
         ++ (match s.pch.state with
             | .charging k | .paused (.charging k) _ _ | .fault _ (some k) => [byteOf k]
             | _ => free 2 1)
         ++ le32 s.pch.elapsed ++ [byteOf s.pch.probeCount] ++ le16 s.pch.staged ++ le16 s.pch.applied
         ++ [byteOf s.pch.ocStreak, byteOf s.pch.exitStreak] ++ le16 s.pch.lastCurrent
         ++ [flag (decide (s.pch.rechargeTimer ≠ .cancelled))])
       ∧ statusSection s 9 = some
         ([byteOf s.swa.platform.code,
           match s.swa.advice with | none => 0 | some .lidClosed => 1 | some .idle => 2,
           byteOf s.swa.cls.code,
           byteOf (bit (decide (s.swa.idleTimer ≠ .cancelled)) 0 + bit (decide (s.swa.holdTimer ≠ .cancelled)) 1)]
         ++ opt 5 2 (s.swa.lastWake.map fun t => le16 t.toNat)
         ++ [flag s.swa.wakeRaised] ++ le16 s.swa.wakeSet.toNat)
       ∧ statusSection s 10 = some
         ([count .high, count .normal, count .low]
         ++ (match s.ufe.queue with
             | [] => [0xFF, 0xFF, 0xFF, 0xFF]
             | f :: _ => le32 (s.partTime - f.time).toNat)
         ++ [flag s.ufe.sending.isSome, flag s.ufe.hold, byteOf s.ufe.column.code]
         ++ s.ufe.gaps.map byteOf ++ s.ufe.fwd.map fun w => byteOf w.acc.length)
       ∧ statusSection s 11 = some
         ([byteOf s.hlm.queue.length, byteOf s.hlm.head.code, flag s.hlm.busy]
         ++ le16 s.hlm.checkErrors ++ le16 s.hlm.kindErrors ++ le16 s.hlm.lengthErrors ++ le16 s.hlm.gapErrors
         ++ le16 s.hlm.overruns ++ opt 14 1 (s.hlm.lastLost.map fun tag => [tag])))
end

