-- ==== Sys2Proof/Laws/State.lean ====
section
/-! SUPPORT. What each update of the state leaves in each field, so that no later proof unfolds a record update. -/

namespace Sys2Proof.Machine

/-! ### setLif -/

@[simp] theorem State.setLif_partTime (s : State) (b : Lif) : (s.setLif b).partTime = s.partTime := rfl
@[simp] theorem State.setLif_lif (s : State) (b : Lif) : (s.setLif b).lif = b := rfl
@[simp] theorem State.setLif_lsp (s : State) (b : Lif) : (s.setLif b).lsp = s.lsp := rfl
@[simp] theorem State.setLif_dlc (s : State) (b : Lif) : (s.setLif b).dlc = s.dlc := rfl
@[simp] theorem State.setLif_hae (s : State) (b : Lif) : (s.setLif b).hae = s.hae := rfl
@[simp] theorem State.setLif_rot (s : State) (b : Lif) : (s.setLif b).rot = s.rot := rfl
@[simp] theorem State.setLif_pcl (s : State) (b : Lif) : (s.setLif b).pcl = s.pcl := rfl
@[simp] theorem State.setLif_alu (s : State) (b : Lif) : (s.setLif b).alu = s.alu := rfl
@[simp] theorem State.setLif_ssu (s : State) (b : Lif) : (s.setLif b).ssu = s.ssu := rfl
@[simp] theorem State.setLif_pch (s : State) (b : Lif) : (s.setLif b).pch = s.pch := rfl
@[simp] theorem State.setLif_swa (s : State) (b : Lif) : (s.setLif b).swa = s.swa := rfl
@[simp] theorem State.setLif_ufe (s : State) (b : Lif) : (s.setLif b).ufe = s.ufe := rfl
@[simp] theorem State.setLif_hlm (s : State) (b : Lif) : (s.setLif b).hlm = s.hlm := rfl
@[simp] theorem State.setLif_inflight (s : State) (b : Lif) : (s.setLif b).inflight = s.inflight := rfl
@[simp] theorem State.setLif_freeCount (s : State) (b : Lif) : (s.setLif b).freeCount = s.freeCount := rfl
@[simp] theorem State.setLif_pending (s : State) (b : Lif) : (s.setLif b).pending = s.pending := rfl
@[simp] theorem State.setLif_setLif (s : State) (a b : Lif) : (s.setLif a).setLif b = s.setLif b := rfl

/-! ### setLsp -/

@[simp] theorem State.setLsp_partTime (s : State) (b : Lsp) : (s.setLsp b).partTime = s.partTime := rfl
@[simp] theorem State.setLsp_lif (s : State) (b : Lsp) : (s.setLsp b).lif = s.lif := rfl
@[simp] theorem State.setLsp_lsp (s : State) (b : Lsp) : (s.setLsp b).lsp = b := rfl
@[simp] theorem State.setLsp_dlc (s : State) (b : Lsp) : (s.setLsp b).dlc = s.dlc := rfl
@[simp] theorem State.setLsp_hae (s : State) (b : Lsp) : (s.setLsp b).hae = s.hae := rfl
@[simp] theorem State.setLsp_rot (s : State) (b : Lsp) : (s.setLsp b).rot = s.rot := rfl
@[simp] theorem State.setLsp_pcl (s : State) (b : Lsp) : (s.setLsp b).pcl = s.pcl := rfl
@[simp] theorem State.setLsp_alu (s : State) (b : Lsp) : (s.setLsp b).alu = s.alu := rfl
@[simp] theorem State.setLsp_ssu (s : State) (b : Lsp) : (s.setLsp b).ssu = s.ssu := rfl
@[simp] theorem State.setLsp_pch (s : State) (b : Lsp) : (s.setLsp b).pch = s.pch := rfl
@[simp] theorem State.setLsp_swa (s : State) (b : Lsp) : (s.setLsp b).swa = s.swa := rfl
@[simp] theorem State.setLsp_ufe (s : State) (b : Lsp) : (s.setLsp b).ufe = s.ufe := rfl
@[simp] theorem State.setLsp_hlm (s : State) (b : Lsp) : (s.setLsp b).hlm = s.hlm := rfl
@[simp] theorem State.setLsp_inflight (s : State) (b : Lsp) : (s.setLsp b).inflight = s.inflight := rfl
@[simp] theorem State.setLsp_freeCount (s : State) (b : Lsp) : (s.setLsp b).freeCount = s.freeCount := rfl
@[simp] theorem State.setLsp_pending (s : State) (b : Lsp) : (s.setLsp b).pending = s.pending := rfl
@[simp] theorem State.setLsp_setLsp (s : State) (a b : Lsp) : (s.setLsp a).setLsp b = s.setLsp b := rfl

/-! ### setDlc -/

@[simp] theorem State.setDlc_partTime (s : State) (b : Dlc) : (s.setDlc b).partTime = s.partTime := rfl
@[simp] theorem State.setDlc_lif (s : State) (b : Dlc) : (s.setDlc b).lif = s.lif := rfl
@[simp] theorem State.setDlc_lsp (s : State) (b : Dlc) : (s.setDlc b).lsp = s.lsp := rfl
@[simp] theorem State.setDlc_dlc (s : State) (b : Dlc) : (s.setDlc b).dlc = b := rfl
@[simp] theorem State.setDlc_hae (s : State) (b : Dlc) : (s.setDlc b).hae = s.hae := rfl
@[simp] theorem State.setDlc_rot (s : State) (b : Dlc) : (s.setDlc b).rot = s.rot := rfl
@[simp] theorem State.setDlc_pcl (s : State) (b : Dlc) : (s.setDlc b).pcl = s.pcl := rfl
@[simp] theorem State.setDlc_alu (s : State) (b : Dlc) : (s.setDlc b).alu = s.alu := rfl
@[simp] theorem State.setDlc_ssu (s : State) (b : Dlc) : (s.setDlc b).ssu = s.ssu := rfl
@[simp] theorem State.setDlc_pch (s : State) (b : Dlc) : (s.setDlc b).pch = s.pch := rfl
@[simp] theorem State.setDlc_swa (s : State) (b : Dlc) : (s.setDlc b).swa = s.swa := rfl
@[simp] theorem State.setDlc_ufe (s : State) (b : Dlc) : (s.setDlc b).ufe = s.ufe := rfl
@[simp] theorem State.setDlc_hlm (s : State) (b : Dlc) : (s.setDlc b).hlm = s.hlm := rfl
@[simp] theorem State.setDlc_inflight (s : State) (b : Dlc) : (s.setDlc b).inflight = s.inflight := rfl
@[simp] theorem State.setDlc_freeCount (s : State) (b : Dlc) : (s.setDlc b).freeCount = s.freeCount := rfl
@[simp] theorem State.setDlc_pending (s : State) (b : Dlc) : (s.setDlc b).pending = s.pending := rfl
@[simp] theorem State.setDlc_setDlc (s : State) (a b : Dlc) : (s.setDlc a).setDlc b = s.setDlc b := rfl

/-! ### setHae -/

@[simp] theorem State.setHae_partTime (s : State) (b : Hae) : (s.setHae b).partTime = s.partTime := rfl
@[simp] theorem State.setHae_lif (s : State) (b : Hae) : (s.setHae b).lif = s.lif := rfl
@[simp] theorem State.setHae_lsp (s : State) (b : Hae) : (s.setHae b).lsp = s.lsp := rfl
@[simp] theorem State.setHae_dlc (s : State) (b : Hae) : (s.setHae b).dlc = s.dlc := rfl
@[simp] theorem State.setHae_hae (s : State) (b : Hae) : (s.setHae b).hae = b := rfl
@[simp] theorem State.setHae_rot (s : State) (b : Hae) : (s.setHae b).rot = s.rot := rfl
@[simp] theorem State.setHae_pcl (s : State) (b : Hae) : (s.setHae b).pcl = s.pcl := rfl
@[simp] theorem State.setHae_alu (s : State) (b : Hae) : (s.setHae b).alu = s.alu := rfl
@[simp] theorem State.setHae_ssu (s : State) (b : Hae) : (s.setHae b).ssu = s.ssu := rfl
@[simp] theorem State.setHae_pch (s : State) (b : Hae) : (s.setHae b).pch = s.pch := rfl
@[simp] theorem State.setHae_swa (s : State) (b : Hae) : (s.setHae b).swa = s.swa := rfl
@[simp] theorem State.setHae_ufe (s : State) (b : Hae) : (s.setHae b).ufe = s.ufe := rfl
@[simp] theorem State.setHae_hlm (s : State) (b : Hae) : (s.setHae b).hlm = s.hlm := rfl
@[simp] theorem State.setHae_inflight (s : State) (b : Hae) : (s.setHae b).inflight = s.inflight := rfl
@[simp] theorem State.setHae_freeCount (s : State) (b : Hae) : (s.setHae b).freeCount = s.freeCount := rfl
@[simp] theorem State.setHae_pending (s : State) (b : Hae) : (s.setHae b).pending = s.pending := rfl
@[simp] theorem State.setHae_setHae (s : State) (a b : Hae) : (s.setHae a).setHae b = s.setHae b := rfl

/-! ### setRot -/

@[simp] theorem State.setRot_partTime (s : State) (b : RotUnit) : (s.setRot b).partTime = s.partTime := rfl
@[simp] theorem State.setRot_lif (s : State) (b : RotUnit) : (s.setRot b).lif = s.lif := rfl
@[simp] theorem State.setRot_lsp (s : State) (b : RotUnit) : (s.setRot b).lsp = s.lsp := rfl
@[simp] theorem State.setRot_dlc (s : State) (b : RotUnit) : (s.setRot b).dlc = s.dlc := rfl
@[simp] theorem State.setRot_hae (s : State) (b : RotUnit) : (s.setRot b).hae = s.hae := rfl
@[simp] theorem State.setRot_rot (s : State) (b : RotUnit) : (s.setRot b).rot = b := rfl
@[simp] theorem State.setRot_pcl (s : State) (b : RotUnit) : (s.setRot b).pcl = s.pcl := rfl
@[simp] theorem State.setRot_alu (s : State) (b : RotUnit) : (s.setRot b).alu = s.alu := rfl
@[simp] theorem State.setRot_ssu (s : State) (b : RotUnit) : (s.setRot b).ssu = s.ssu := rfl
@[simp] theorem State.setRot_pch (s : State) (b : RotUnit) : (s.setRot b).pch = s.pch := rfl
@[simp] theorem State.setRot_swa (s : State) (b : RotUnit) : (s.setRot b).swa = s.swa := rfl
@[simp] theorem State.setRot_ufe (s : State) (b : RotUnit) : (s.setRot b).ufe = s.ufe := rfl
@[simp] theorem State.setRot_hlm (s : State) (b : RotUnit) : (s.setRot b).hlm = s.hlm := rfl
@[simp] theorem State.setRot_inflight (s : State) (b : RotUnit) : (s.setRot b).inflight = s.inflight := rfl
@[simp] theorem State.setRot_freeCount (s : State) (b : RotUnit) : (s.setRot b).freeCount = s.freeCount := rfl
@[simp] theorem State.setRot_pending (s : State) (b : RotUnit) : (s.setRot b).pending = s.pending := rfl
@[simp] theorem State.setRot_setRot (s : State) (a b : RotUnit) : (s.setRot a).setRot b = s.setRot b := rfl

/-! ### setPcl -/

@[simp] theorem State.setPcl_partTime (s : State) (b : Pcl) : (s.setPcl b).partTime = s.partTime := rfl
@[simp] theorem State.setPcl_lif (s : State) (b : Pcl) : (s.setPcl b).lif = s.lif := rfl
@[simp] theorem State.setPcl_lsp (s : State) (b : Pcl) : (s.setPcl b).lsp = s.lsp := rfl
@[simp] theorem State.setPcl_dlc (s : State) (b : Pcl) : (s.setPcl b).dlc = s.dlc := rfl
@[simp] theorem State.setPcl_hae (s : State) (b : Pcl) : (s.setPcl b).hae = s.hae := rfl
@[simp] theorem State.setPcl_rot (s : State) (b : Pcl) : (s.setPcl b).rot = s.rot := rfl
@[simp] theorem State.setPcl_pcl (s : State) (b : Pcl) : (s.setPcl b).pcl = b := rfl
@[simp] theorem State.setPcl_alu (s : State) (b : Pcl) : (s.setPcl b).alu = s.alu := rfl
@[simp] theorem State.setPcl_ssu (s : State) (b : Pcl) : (s.setPcl b).ssu = s.ssu := rfl
@[simp] theorem State.setPcl_pch (s : State) (b : Pcl) : (s.setPcl b).pch = s.pch := rfl
@[simp] theorem State.setPcl_swa (s : State) (b : Pcl) : (s.setPcl b).swa = s.swa := rfl
@[simp] theorem State.setPcl_ufe (s : State) (b : Pcl) : (s.setPcl b).ufe = s.ufe := rfl
@[simp] theorem State.setPcl_hlm (s : State) (b : Pcl) : (s.setPcl b).hlm = s.hlm := rfl
@[simp] theorem State.setPcl_inflight (s : State) (b : Pcl) : (s.setPcl b).inflight = s.inflight := rfl
@[simp] theorem State.setPcl_freeCount (s : State) (b : Pcl) : (s.setPcl b).freeCount = s.freeCount := rfl
@[simp] theorem State.setPcl_pending (s : State) (b : Pcl) : (s.setPcl b).pending = s.pending := rfl
@[simp] theorem State.setPcl_setPcl (s : State) (a b : Pcl) : (s.setPcl a).setPcl b = s.setPcl b := rfl

/-! ### setAlu -/

@[simp] theorem State.setAlu_partTime (s : State) (b : Alu) : (s.setAlu b).partTime = s.partTime := rfl
@[simp] theorem State.setAlu_lif (s : State) (b : Alu) : (s.setAlu b).lif = s.lif := rfl
@[simp] theorem State.setAlu_lsp (s : State) (b : Alu) : (s.setAlu b).lsp = s.lsp := rfl
@[simp] theorem State.setAlu_dlc (s : State) (b : Alu) : (s.setAlu b).dlc = s.dlc := rfl
@[simp] theorem State.setAlu_hae (s : State) (b : Alu) : (s.setAlu b).hae = s.hae := rfl
@[simp] theorem State.setAlu_rot (s : State) (b : Alu) : (s.setAlu b).rot = s.rot := rfl
@[simp] theorem State.setAlu_pcl (s : State) (b : Alu) : (s.setAlu b).pcl = s.pcl := rfl
@[simp] theorem State.setAlu_alu (s : State) (b : Alu) : (s.setAlu b).alu = b := rfl
@[simp] theorem State.setAlu_ssu (s : State) (b : Alu) : (s.setAlu b).ssu = s.ssu := rfl
@[simp] theorem State.setAlu_pch (s : State) (b : Alu) : (s.setAlu b).pch = s.pch := rfl
@[simp] theorem State.setAlu_swa (s : State) (b : Alu) : (s.setAlu b).swa = s.swa := rfl
@[simp] theorem State.setAlu_ufe (s : State) (b : Alu) : (s.setAlu b).ufe = s.ufe := rfl
@[simp] theorem State.setAlu_hlm (s : State) (b : Alu) : (s.setAlu b).hlm = s.hlm := rfl
@[simp] theorem State.setAlu_inflight (s : State) (b : Alu) : (s.setAlu b).inflight = s.inflight := rfl
@[simp] theorem State.setAlu_freeCount (s : State) (b : Alu) : (s.setAlu b).freeCount = s.freeCount := rfl
@[simp] theorem State.setAlu_pending (s : State) (b : Alu) : (s.setAlu b).pending = s.pending := rfl
@[simp] theorem State.setAlu_setAlu (s : State) (a b : Alu) : (s.setAlu a).setAlu b = s.setAlu b := rfl

/-! ### setSsu -/

@[simp] theorem State.setSsu_partTime (s : State) (b : Ssu) : (s.setSsu b).partTime = s.partTime := rfl
@[simp] theorem State.setSsu_lif (s : State) (b : Ssu) : (s.setSsu b).lif = s.lif := rfl
@[simp] theorem State.setSsu_lsp (s : State) (b : Ssu) : (s.setSsu b).lsp = s.lsp := rfl
@[simp] theorem State.setSsu_dlc (s : State) (b : Ssu) : (s.setSsu b).dlc = s.dlc := rfl
@[simp] theorem State.setSsu_hae (s : State) (b : Ssu) : (s.setSsu b).hae = s.hae := rfl
@[simp] theorem State.setSsu_rot (s : State) (b : Ssu) : (s.setSsu b).rot = s.rot := rfl
@[simp] theorem State.setSsu_pcl (s : State) (b : Ssu) : (s.setSsu b).pcl = s.pcl := rfl
@[simp] theorem State.setSsu_alu (s : State) (b : Ssu) : (s.setSsu b).alu = s.alu := rfl
@[simp] theorem State.setSsu_ssu (s : State) (b : Ssu) : (s.setSsu b).ssu = b := rfl
@[simp] theorem State.setSsu_pch (s : State) (b : Ssu) : (s.setSsu b).pch = s.pch := rfl
@[simp] theorem State.setSsu_swa (s : State) (b : Ssu) : (s.setSsu b).swa = s.swa := rfl
@[simp] theorem State.setSsu_ufe (s : State) (b : Ssu) : (s.setSsu b).ufe = s.ufe := rfl
@[simp] theorem State.setSsu_hlm (s : State) (b : Ssu) : (s.setSsu b).hlm = s.hlm := rfl
@[simp] theorem State.setSsu_inflight (s : State) (b : Ssu) : (s.setSsu b).inflight = s.inflight := rfl
@[simp] theorem State.setSsu_freeCount (s : State) (b : Ssu) : (s.setSsu b).freeCount = s.freeCount := rfl
@[simp] theorem State.setSsu_pending (s : State) (b : Ssu) : (s.setSsu b).pending = s.pending := rfl
@[simp] theorem State.setSsu_setSsu (s : State) (a b : Ssu) : (s.setSsu a).setSsu b = s.setSsu b := rfl

/-! ### setPch -/

@[simp] theorem State.setPch_partTime (s : State) (b : Pch) : (s.setPch b).partTime = s.partTime := rfl
@[simp] theorem State.setPch_lif (s : State) (b : Pch) : (s.setPch b).lif = s.lif := rfl
@[simp] theorem State.setPch_lsp (s : State) (b : Pch) : (s.setPch b).lsp = s.lsp := rfl
@[simp] theorem State.setPch_dlc (s : State) (b : Pch) : (s.setPch b).dlc = s.dlc := rfl
@[simp] theorem State.setPch_hae (s : State) (b : Pch) : (s.setPch b).hae = s.hae := rfl
@[simp] theorem State.setPch_rot (s : State) (b : Pch) : (s.setPch b).rot = s.rot := rfl
@[simp] theorem State.setPch_pcl (s : State) (b : Pch) : (s.setPch b).pcl = s.pcl := rfl
@[simp] theorem State.setPch_alu (s : State) (b : Pch) : (s.setPch b).alu = s.alu := rfl
@[simp] theorem State.setPch_ssu (s : State) (b : Pch) : (s.setPch b).ssu = s.ssu := rfl
@[simp] theorem State.setPch_pch (s : State) (b : Pch) : (s.setPch b).pch = b := rfl
@[simp] theorem State.setPch_swa (s : State) (b : Pch) : (s.setPch b).swa = s.swa := rfl
@[simp] theorem State.setPch_ufe (s : State) (b : Pch) : (s.setPch b).ufe = s.ufe := rfl
@[simp] theorem State.setPch_hlm (s : State) (b : Pch) : (s.setPch b).hlm = s.hlm := rfl
@[simp] theorem State.setPch_inflight (s : State) (b : Pch) : (s.setPch b).inflight = s.inflight := rfl
@[simp] theorem State.setPch_freeCount (s : State) (b : Pch) : (s.setPch b).freeCount = s.freeCount := rfl
@[simp] theorem State.setPch_pending (s : State) (b : Pch) : (s.setPch b).pending = s.pending := rfl
@[simp] theorem State.setPch_setPch (s : State) (a b : Pch) : (s.setPch a).setPch b = s.setPch b := rfl

/-! ### setSwa -/

@[simp] theorem State.setSwa_partTime (s : State) (b : Swa) : (s.setSwa b).partTime = s.partTime := rfl
@[simp] theorem State.setSwa_lif (s : State) (b : Swa) : (s.setSwa b).lif = s.lif := rfl
@[simp] theorem State.setSwa_lsp (s : State) (b : Swa) : (s.setSwa b).lsp = s.lsp := rfl
@[simp] theorem State.setSwa_dlc (s : State) (b : Swa) : (s.setSwa b).dlc = s.dlc := rfl
@[simp] theorem State.setSwa_hae (s : State) (b : Swa) : (s.setSwa b).hae = s.hae := rfl
@[simp] theorem State.setSwa_rot (s : State) (b : Swa) : (s.setSwa b).rot = s.rot := rfl
@[simp] theorem State.setSwa_pcl (s : State) (b : Swa) : (s.setSwa b).pcl = s.pcl := rfl
@[simp] theorem State.setSwa_alu (s : State) (b : Swa) : (s.setSwa b).alu = s.alu := rfl
@[simp] theorem State.setSwa_ssu (s : State) (b : Swa) : (s.setSwa b).ssu = s.ssu := rfl
@[simp] theorem State.setSwa_pch (s : State) (b : Swa) : (s.setSwa b).pch = s.pch := rfl
@[simp] theorem State.setSwa_swa (s : State) (b : Swa) : (s.setSwa b).swa = b := rfl
@[simp] theorem State.setSwa_ufe (s : State) (b : Swa) : (s.setSwa b).ufe = s.ufe := rfl
@[simp] theorem State.setSwa_hlm (s : State) (b : Swa) : (s.setSwa b).hlm = s.hlm := rfl
@[simp] theorem State.setSwa_inflight (s : State) (b : Swa) : (s.setSwa b).inflight = s.inflight := rfl
@[simp] theorem State.setSwa_freeCount (s : State) (b : Swa) : (s.setSwa b).freeCount = s.freeCount := rfl
@[simp] theorem State.setSwa_pending (s : State) (b : Swa) : (s.setSwa b).pending = s.pending := rfl
@[simp] theorem State.setSwa_setSwa (s : State) (a b : Swa) : (s.setSwa a).setSwa b = s.setSwa b := rfl

/-! ### setUfe -/

@[simp] theorem State.setUfe_partTime (s : State) (b : Ufe) : (s.setUfe b).partTime = s.partTime := rfl
@[simp] theorem State.setUfe_lif (s : State) (b : Ufe) : (s.setUfe b).lif = s.lif := rfl
@[simp] theorem State.setUfe_lsp (s : State) (b : Ufe) : (s.setUfe b).lsp = s.lsp := rfl
@[simp] theorem State.setUfe_dlc (s : State) (b : Ufe) : (s.setUfe b).dlc = s.dlc := rfl
@[simp] theorem State.setUfe_hae (s : State) (b : Ufe) : (s.setUfe b).hae = s.hae := rfl
@[simp] theorem State.setUfe_rot (s : State) (b : Ufe) : (s.setUfe b).rot = s.rot := rfl
@[simp] theorem State.setUfe_pcl (s : State) (b : Ufe) : (s.setUfe b).pcl = s.pcl := rfl
@[simp] theorem State.setUfe_alu (s : State) (b : Ufe) : (s.setUfe b).alu = s.alu := rfl
@[simp] theorem State.setUfe_ssu (s : State) (b : Ufe) : (s.setUfe b).ssu = s.ssu := rfl
@[simp] theorem State.setUfe_pch (s : State) (b : Ufe) : (s.setUfe b).pch = s.pch := rfl
@[simp] theorem State.setUfe_swa (s : State) (b : Ufe) : (s.setUfe b).swa = s.swa := rfl
@[simp] theorem State.setUfe_ufe (s : State) (b : Ufe) : (s.setUfe b).ufe = b := rfl
@[simp] theorem State.setUfe_hlm (s : State) (b : Ufe) : (s.setUfe b).hlm = s.hlm := rfl
@[simp] theorem State.setUfe_inflight (s : State) (b : Ufe) : (s.setUfe b).inflight = s.inflight := rfl
@[simp] theorem State.setUfe_freeCount (s : State) (b : Ufe) : (s.setUfe b).freeCount = s.freeCount := rfl
@[simp] theorem State.setUfe_pending (s : State) (b : Ufe) : (s.setUfe b).pending = s.pending := rfl
@[simp] theorem State.setUfe_setUfe (s : State) (a b : Ufe) : (s.setUfe a).setUfe b = s.setUfe b := rfl

/-! ### setHlm -/

@[simp] theorem State.setHlm_partTime (s : State) (b : Hlm) : (s.setHlm b).partTime = s.partTime := rfl
@[simp] theorem State.setHlm_lif (s : State) (b : Hlm) : (s.setHlm b).lif = s.lif := rfl
@[simp] theorem State.setHlm_lsp (s : State) (b : Hlm) : (s.setHlm b).lsp = s.lsp := rfl
@[simp] theorem State.setHlm_dlc (s : State) (b : Hlm) : (s.setHlm b).dlc = s.dlc := rfl
@[simp] theorem State.setHlm_hae (s : State) (b : Hlm) : (s.setHlm b).hae = s.hae := rfl
@[simp] theorem State.setHlm_rot (s : State) (b : Hlm) : (s.setHlm b).rot = s.rot := rfl
@[simp] theorem State.setHlm_pcl (s : State) (b : Hlm) : (s.setHlm b).pcl = s.pcl := rfl
@[simp] theorem State.setHlm_alu (s : State) (b : Hlm) : (s.setHlm b).alu = s.alu := rfl
@[simp] theorem State.setHlm_ssu (s : State) (b : Hlm) : (s.setHlm b).ssu = s.ssu := rfl
@[simp] theorem State.setHlm_pch (s : State) (b : Hlm) : (s.setHlm b).pch = s.pch := rfl
@[simp] theorem State.setHlm_swa (s : State) (b : Hlm) : (s.setHlm b).swa = s.swa := rfl
@[simp] theorem State.setHlm_ufe (s : State) (b : Hlm) : (s.setHlm b).ufe = s.ufe := rfl
@[simp] theorem State.setHlm_hlm (s : State) (b : Hlm) : (s.setHlm b).hlm = b := rfl
@[simp] theorem State.setHlm_inflight (s : State) (b : Hlm) : (s.setHlm b).inflight = s.inflight := rfl
@[simp] theorem State.setHlm_freeCount (s : State) (b : Hlm) : (s.setHlm b).freeCount = s.freeCount := rfl
@[simp] theorem State.setHlm_pending (s : State) (b : Hlm) : (s.setHlm b).pending = s.pending := rfl
@[simp] theorem State.setHlm_setHlm (s : State) (a b : Hlm) : (s.setHlm a).setHlm b = s.setHlm b := rfl

/-! ### Deliveries -/

@[simp] theorem State.emits_partTime (s : State) (cs : List Instr) : (s.emits cs).partTime = s.partTime := rfl
@[simp] theorem State.emits_lif (s : State) (cs : List Instr) : (s.emits cs).lif = s.lif := rfl
@[simp] theorem State.emits_lsp (s : State) (cs : List Instr) : (s.emits cs).lsp = s.lsp := rfl
@[simp] theorem State.emits_dlc (s : State) (cs : List Instr) : (s.emits cs).dlc = s.dlc := rfl
@[simp] theorem State.emits_hae (s : State) (cs : List Instr) : (s.emits cs).hae = s.hae := rfl
@[simp] theorem State.emits_rot (s : State) (cs : List Instr) : (s.emits cs).rot = s.rot := rfl
@[simp] theorem State.emits_pcl (s : State) (cs : List Instr) : (s.emits cs).pcl = s.pcl := rfl
@[simp] theorem State.emits_alu (s : State) (cs : List Instr) : (s.emits cs).alu = s.alu := rfl
@[simp] theorem State.emits_ssu (s : State) (cs : List Instr) : (s.emits cs).ssu = s.ssu := rfl
@[simp] theorem State.emits_pch (s : State) (cs : List Instr) : (s.emits cs).pch = s.pch := rfl
@[simp] theorem State.emits_swa (s : State) (cs : List Instr) : (s.emits cs).swa = s.swa := rfl
@[simp] theorem State.emits_ufe (s : State) (cs : List Instr) : (s.emits cs).ufe = s.ufe := rfl
@[simp] theorem State.emits_hlm (s : State) (cs : List Instr) : (s.emits cs).hlm = s.hlm := rfl
@[simp] theorem State.emits_inflight (s : State) (cs : List Instr) : (s.emits cs).inflight = s.inflight ++ cs := rfl
@[simp] theorem State.emits_freeCount (s : State) (cs : List Instr) : (s.emits cs).freeCount = s.freeCount := rfl
@[simp] theorem State.emits_pending (s : State) (cs : List Instr) : (s.emits cs).pending = s.pending := rfl

@[simp] theorem State.emit_partTime (s : State) (c : Instr) : (s.emit c).partTime = s.partTime := rfl
@[simp] theorem State.emit_lif (s : State) (c : Instr) : (s.emit c).lif = s.lif := rfl
@[simp] theorem State.emit_lsp (s : State) (c : Instr) : (s.emit c).lsp = s.lsp := rfl
@[simp] theorem State.emit_dlc (s : State) (c : Instr) : (s.emit c).dlc = s.dlc := rfl
@[simp] theorem State.emit_hae (s : State) (c : Instr) : (s.emit c).hae = s.hae := rfl
@[simp] theorem State.emit_rot (s : State) (c : Instr) : (s.emit c).rot = s.rot := rfl
@[simp] theorem State.emit_pcl (s : State) (c : Instr) : (s.emit c).pcl = s.pcl := rfl
@[simp] theorem State.emit_alu (s : State) (c : Instr) : (s.emit c).alu = s.alu := rfl
@[simp] theorem State.emit_ssu (s : State) (c : Instr) : (s.emit c).ssu = s.ssu := rfl
@[simp] theorem State.emit_pch (s : State) (c : Instr) : (s.emit c).pch = s.pch := rfl
@[simp] theorem State.emit_swa (s : State) (c : Instr) : (s.emit c).swa = s.swa := rfl
@[simp] theorem State.emit_ufe (s : State) (c : Instr) : (s.emit c).ufe = s.ufe := rfl
@[simp] theorem State.emit_hlm (s : State) (c : Instr) : (s.emit c).hlm = s.hlm := rfl
@[simp] theorem State.emit_inflight (s : State) (c : Instr) : (s.emit c).inflight = s.inflight ++ [c] := rfl
@[simp] theorem State.emit_freeCount (s : State) (c : Instr) : (s.emit c).freeCount = s.freeCount := rfl
@[simp] theorem State.emit_pending (s : State) (c : Instr) : (s.emit c).pending = s.pending := rfl

@[simp] theorem State.offer_partTime (s : State) (r : Record) : (s.offer r).partTime = s.partTime := rfl
@[simp] theorem State.offer_lif (s : State) (r : Record) : (s.offer r).lif = s.lif := rfl
@[simp] theorem State.offer_lsp (s : State) (r : Record) : (s.offer r).lsp = s.lsp := rfl
@[simp] theorem State.offer_dlc (s : State) (r : Record) : (s.offer r).dlc = s.dlc := rfl
@[simp] theorem State.offer_hae (s : State) (r : Record) : (s.offer r).hae = s.hae := rfl
@[simp] theorem State.offer_rot (s : State) (r : Record) : (s.offer r).rot = s.rot := rfl
@[simp] theorem State.offer_pcl (s : State) (r : Record) : (s.offer r).pcl = s.pcl := rfl
@[simp] theorem State.offer_alu (s : State) (r : Record) : (s.offer r).alu = s.alu := rfl
@[simp] theorem State.offer_ssu (s : State) (r : Record) : (s.offer r).ssu = s.ssu := rfl
@[simp] theorem State.offer_pch (s : State) (r : Record) : (s.offer r).pch = s.pch := rfl
@[simp] theorem State.offer_swa (s : State) (r : Record) : (s.offer r).swa = s.swa := rfl
@[simp] theorem State.offer_ufe (s : State) (r : Record) : (s.offer r).ufe = s.ufe := rfl
@[simp] theorem State.offer_hlm (s : State) (r : Record) : (s.offer r).hlm = s.hlm := rfl
@[simp] theorem State.offer_inflight (s : State) (r : Record) : (s.offer r).inflight = s.inflight ++ [.recordOffer r] := rfl
@[simp] theorem State.offer_freeCount (s : State) (r : Record) : (s.offer r).freeCount = s.freeCount := rfl
@[simp] theorem State.offer_pending (s : State) (r : Record) : (s.offer r).pending = s.pending := rfl

@[simp] theorem State.took_partTime (s : State) (c : Instr) : (s.took c).partTime = s.partTime := rfl
@[simp] theorem State.took_lif (s : State) (c : Instr) : (s.took c).lif = s.lif := rfl
@[simp] theorem State.took_lsp (s : State) (c : Instr) : (s.took c).lsp = s.lsp := rfl
@[simp] theorem State.took_dlc (s : State) (c : Instr) : (s.took c).dlc = s.dlc := rfl
@[simp] theorem State.took_hae (s : State) (c : Instr) : (s.took c).hae = s.hae := rfl
@[simp] theorem State.took_rot (s : State) (c : Instr) : (s.took c).rot = s.rot := rfl
@[simp] theorem State.took_pcl (s : State) (c : Instr) : (s.took c).pcl = s.pcl := rfl
@[simp] theorem State.took_alu (s : State) (c : Instr) : (s.took c).alu = s.alu := rfl
@[simp] theorem State.took_ssu (s : State) (c : Instr) : (s.took c).ssu = s.ssu := rfl
@[simp] theorem State.took_pch (s : State) (c : Instr) : (s.took c).pch = s.pch := rfl
@[simp] theorem State.took_swa (s : State) (c : Instr) : (s.took c).swa = s.swa := rfl
@[simp] theorem State.took_ufe (s : State) (c : Instr) : (s.took c).ufe = s.ufe := rfl
@[simp] theorem State.took_hlm (s : State) (c : Instr) : (s.took c).hlm = s.hlm := rfl
@[simp] theorem State.took_inflight (s : State) (c : Instr) : (s.took c).inflight = s.inflight.erase c := rfl
@[simp] theorem State.took_freeCount (s : State) (c : Instr) : (s.took c).freeCount = s.freeCount := rfl
@[simp] theorem State.took_pending (s : State) (c : Instr) : (s.took c).pending = s.pending := rfl

@[simp] theorem State.freeUsed_partTime (s : State) : (s.freeUsed).partTime = s.partTime := rfl
@[simp] theorem State.freeUsed_lif (s : State) : (s.freeUsed).lif = s.lif := rfl
@[simp] theorem State.freeUsed_lsp (s : State) : (s.freeUsed).lsp = s.lsp := rfl
@[simp] theorem State.freeUsed_dlc (s : State) : (s.freeUsed).dlc = s.dlc := rfl
@[simp] theorem State.freeUsed_hae (s : State) : (s.freeUsed).hae = s.hae := rfl
@[simp] theorem State.freeUsed_rot (s : State) : (s.freeUsed).rot = s.rot := rfl
@[simp] theorem State.freeUsed_pcl (s : State) : (s.freeUsed).pcl = s.pcl := rfl
@[simp] theorem State.freeUsed_alu (s : State) : (s.freeUsed).alu = s.alu := rfl
@[simp] theorem State.freeUsed_ssu (s : State) : (s.freeUsed).ssu = s.ssu := rfl
@[simp] theorem State.freeUsed_pch (s : State) : (s.freeUsed).pch = s.pch := rfl
@[simp] theorem State.freeUsed_swa (s : State) : (s.freeUsed).swa = s.swa := rfl
@[simp] theorem State.freeUsed_ufe (s : State) : (s.freeUsed).ufe = s.ufe := rfl
@[simp] theorem State.freeUsed_hlm (s : State) : (s.freeUsed).hlm = s.hlm := rfl
@[simp] theorem State.freeUsed_inflight (s : State) : (s.freeUsed).inflight = s.inflight := rfl
@[simp] theorem State.freeUsed_freeCount (s : State) : (s.freeUsed).freeCount = s.freeCount + 1 := rfl
@[simp] theorem State.freeUsed_pending (s : State) : (s.freeUsed).pending = s.pending := rfl

/-! ### What the clock reads after an update -/

@[simp] theorem State.stamp_of_partTime (s : State) : s.stamp = s.partTime.setWidth 16 := rfl

@[simp] theorem State.timer_def (s : State) (ms : Nat) : s.timer ms = .running (s.partTime + BitVec.ofNat 32 ms) := rfl

@[simp] theorem Timer.isRunning_cancelled : Timer.cancelled.isRunning = false := rfl

@[simp] theorem Timer.isRunning_running (e : PartTime) : (Timer.running e).isRunning = true := rfl

@[simp] theorem Timer.due_cancelled (now : PartTime) : Timer.cancelled.due now = false := rfl

@[simp] theorem Timer.due_running (now e : PartTime) :
    (Timer.running e).due now = decide ((now - e).toNat < 2 ^ 31) := rfl

end Sys2Proof.Machine
end

