-- ==== Sys2Proof/Laws/Blocks.lean ====
section
/-! SUPPORT. What the shared steps of the smaller blocks do: the lid map, the action lines, the supply, the charger, the
arbiter, the classifier and the hinge engine, each as one record update. -/

namespace Sys2Proof.Machine

/-! ### Sample values (R14) -/

/-- Saturation always gives a sample value. -/
theorem sat16_inSample (v : Int) : -32768 ≤ sat16 v ∧ sat16 v ≤ 32767 := by
  unfold sat16
  omega

/-- A value in the sample range is left as it is. -/
theorem sat16_of_inSample (v : Int) (h : -32768 ≤ v) (h' : v ≤ 32767) : sat16 v = v := by
  unfold sat16
  omega

/-! ### Action lines (R101, R104) -/

/-- A written record; a changed level of AL0 is delivered to the dock link. -/
theorem putLine_eq (i : Nat) (l : ActionLine) (s : State) : putLine i l s = { s with
    alu := s.alu.put i l
    inflight := s.inflight ++
      if (s.alu.put i l).al0.level = s.alu.al0.level then [] else [.al0LevelDelivery (s.alu.put i l).al0.level] } := by
  by_cases h : (s.alu.put i l).al0.level = s.alu.al0.level
  · simp [putLine, h, State.setAlu]
  · simp [putLine, h, State.setAlu, State.emit, State.emits]

/-- The record written is read back, and every other line reads as before. -/
theorem Alu.get_put (u : Alu) (i j : Nat) (l : ActionLine) (hi : i < 4) (hj : j < 4) :
    (u.put i l).get j = if i = j then l else u.get j := by
  have h : i = 0 ∨ i = 1 ∨ i = 2 ∨ i = 3 := by omega
  have h' : j = 0 ∨ j = 1 ∨ j = 2 ∨ j = 3 := by omega
  rcases h with rfl | rfl | rfl | rfl <;> rcases h' with rfl | rfl | rfl | rfl <;> rfl

/-! ### Supply (R111 to R116) -/

/-- A recomputation, and its hand-over to the charger when one of the three values has changed. -/
theorem supplyEvent_eq (u : Ssu) (s : State) : supplyEvent u s = { s with
    ssu := u.recomputed
    inflight := s.inflight ++
      if u.recomputed.allowance = s.ssu.allowance ∧ u.recomputed.dutyCeiling = s.ssu.dutyCeiling
        ∧ u.recomputed.budgetPause = s.ssu.budgetPause then []
      else [.ssuResultDelivery u.recomputed.allowance u.recomputed.dutyCeiling u.recomputed.budgetPause] } := by
  unfold supplyEvent
  dsimp only
  split
  · simp [State.setSsu]
  · rfl

/-! ### Charger (R122, R124, R128, R132) -/

/-- A probe begins, or waits in PAUSED while a reason holds. -/
theorem probeOrPause_eq (s : State) : probeOrPause s = { s with
    pch := if s.pch.hasReason then
        { s.pch with state := .paused .probe s.pch.deny s.pch.budgetPause, staged := 0 }
      else { s.pch with
        state := .probe, staged := s.probeDuty, probeCount := 0, probePassed := false, exitStreak := 0, elapsed := 0 } } := by
  unfold probeOrPause
  split <;> rfl

/-- A fault stops the coil at the boundary, and is recorded and told to the action lines. -/
theorem enterFault_eq (kind : ChargerFault) (s : State) : enterFault kind s = { s with
    pch := { s.pch with state := .fault kind s.pch.state.stage, staged := 0, ocStreak := 0, exitStreak := 0 }
    inflight := s.inflight ++
      [.recordOffer (.fault (.charger kind s.pch.state.stage s.pch.lastCurrent) s.stamp),
       .triggerDelivery .chargerFault] } := rfl

/-! ### Arbiter (R141, R142, R147, R150) -/

/-- Standing advice is withdrawn with its record. -/
theorem withdraw_eq (cause : WithdrawCause) (s : State) : withdraw cause s = { s with
    swa := { s.swa with advice := none }
    inflight := s.inflight ++ match s.swa.advice with
      | some reason => [.recordOffer (.sleep (.withdrawn reason cause) s.stamp)]
      | none => [] } := by
  unfold withdraw
  split
  · next h =>
    obtain ⟨_, _, _, _, _, _, _, _, _, _, swa, _, _, _, _, _⟩ := s
    obtain ⟨_, advice, _, _, _, _, _, _, _, _, _, _⟩ := swa
    dsimp only at h
    subst h
    simp
  · next h => simp [h, State.offer, State.emit, State.emits, State.setSwa, State.stamp]

/-- An activity event: the idle timer starts anew, and while AWAKE standing advice is withdrawn. -/
theorem activity_eq (a : Activity) (s : State) : activity a s = { s with
    swa := { s.swa with
      advice := if s.swa.platform = .awake then none else s.swa.advice
      idleTimer := if s.swa.idleTimeout = 0 then .cancelled else s.timer (s.swa.idleTimeout * 1000) }
    inflight := s.inflight ++ match s.swa.platform, s.swa.advice with
      | .awake, some reason => [.recordOffer (.sleep (.withdrawn reason (.activity a)) s.stamp)]
      | _, _ => [] } := by
  unfold activity startIdle
  by_cases h : s.swa.platform = .awake
  · simp only [h, if_true, withdraw_eq]
    cases h' : s.swa.advice <;> simp [State.setSwa, State.timer]
  · cases h' : s.swa.platform
    · exact absurd h' h
    · simp [State.setSwa]

/-- A raised wake gathers the reason; one that is not is raised with its record. -/
theorem wakeFor_eq (r : WakeReason) (s : State) : wakeFor r s = { s with
    swa := { s.swa with wakeRaised := true, wakeSet := s.swa.wakeSet ||| r.bit }
    inflight := s.inflight ++
      if s.swa.wakeRaised then [] else [.recordOffer (.sleep (.wake r (s.swa.wakeSet ||| r.bit)) s.stamp)] } := by
  unfold wakeFor
  cases h : s.swa.wakeRaised
  · simp [State.offer, State.emit, State.emits, State.setSwa, State.stamp]
  · simp [State.setSwa, ← h]

/-! ### Classifier (R83, R89) -/

/-- A change of row publishes the row's outputs. -/
theorem publishRow_pcl (row : Option Nat) (s : State) :
    (publishRow row s).pcl = { s.pcl with row := row, published := s.pcl.outputsOf row } := rfl

/-- An acceptance makes the row and its posture current, and publishes its outputs. -/
theorem acceptPosture_pcl (i : Nat) (s : State) : (acceptPosture i s).pcl = { s.pcl with
    candidate := none, timer := .cancelled, posture := some (s.pcl.rowAt i).posture, row := some i
    published := (s.pcl.rowAt i).out } := rfl

/-! ### Hinge engine (R59 to R61) -/

/-- The deliveries of an event's outcome change nothing but what is in flight. -/
theorem deliverOutcome_eq (before : Hae) (s : State) : deliverOutcome before s = { s with
    inflight := s.inflight
      ++ ((if s.hae.reported ≠ before.reported ∨ s.hae.quality ≠ before.quality ∨ s.hae.face ≠ before.face then
            [.hingeDelivery s.hae.reported s.hae.quality s.hae.face] else [])
        ++ (if s.hae.reported ≠ before.reported ∨ s.hae.quality ≠ before.quality then
            [.recordOffer (.hinge s.hae.reported s.hae.quality s.hae.raw s.stamp)] else [])) } := rfl

/-- A review decides the first two tests alone. -/
theorem reviewQuality_eq (s : State) : reviewQuality s = s.setHae { s.hae with
    quality := if s.noBase then .noBase else if s.isStale then .stale else s.hae.quality
    raw := if s.noBase then none else s.hae.raw
    tracked := if s.noBase then none else s.hae.tracked } := by
  unfold reviewQuality
  split
  · rfl
  · split <;> rfl

end Sys2Proof.Machine
end

