-- ==== Sys2Proof/Laws/Dock.lean ====
section
/-! SUPPORT. What each shared step of the dock link does, as one record update. -/

namespace Sys2Proof.Machine

/-- A change of dock state is delivered to the hinge engine and to the classifier (R27). -/
theorem setDockState_eq (st : DockState) (s : State) : setDockState st s = { s with
    dlc := { s.dlc with state := st }
    inflight := s.inflight ++
      if s.dlc.state = st then [] else [.haeDockStateDelivery st, .pclDockStateDelivery st] } := by
  unfold setDockState
  split
  · next h => subst h; simp
  · rfl

/-- A recomputed draw is delivered when it has changed (R35). -/
theorem recomputeDraw_eq (s : State) : recomputeDraw s = { s with
    dlc := { s.dlc with draw := s.dlc.budget }
    inflight := s.inflight ++ if s.dlc.budget = s.dlc.draw then [] else [.drawDelivery s.dlc.budget] } := by
  unfold recomputeDraw
  split
  · next h => rw [h]; simp
  · rfl

/-- A DOCK_EVENT carries the undelivered count, which is then 0 (R33). -/
theorem dockEvent_eq (kind : DockEventKind) (s : State) : dockEvent kind s = { s with
    dlc := { s.dlc with undelivered := 0 }
    inflight := s.inflight ++ [.recordOffer (.dockEvent kind s.dlc.state s.dlc.undelivered s.stamp)] } := rfl

/-- A head item leaves the queue with a notice of room (R31). -/
theorem popItem_eq (s : State) : popItem s = { s with
    dlc := { s.dlc with queue := s.dlc.queue.tail }
    inflight := s.inflight ++ [.dockRoomNotice] } := rfl

/-- An unconsumed offer is counted; at the limit the item is discarded into the undelivered count (R32). -/
theorem countUnconsumed_eq (s : State) : countUnconsumed s = { s with
    dlc := { s.dlc with
      queue := afterUnconsumed s.dlc.queue
      undelivered := if atOfferLimit s then satAdd 255 s.dlc.undelivered 1 else s.dlc.undelivered }
    inflight := s.inflight ++ if atOfferLimit s then [.dockRoomNotice] else [] } := by
  obtain ⟨_, _, _, dlc, _, _, _, _, _, _, _, _, _, _, _, _⟩ := s
  obtain ⟨_, _, _, _, _, _, _, _, _, _, _, _, _, _, _, _, queue, _, _, _, _, _, _, _, _, _, _, _, _, _, _⟩ := dlc
  cases queue with
  | nil => simp [countUnconsumed, afterUnconsumed, atOfferLimit]
  | cons i rest =>
    by_cases h : 7 ≤ i.offers <;>
      simp [countUnconsumed, afterUnconsumed, atOfferLimit, popItem, State.emit, State.emits, State.setDlc, h]

/-- Entry into ATTACHING (R25). -/
theorem enterAttaching_eq (s : State) : enterAttaching s = { s with
    dlc := { s.dlc with
      state := .attaching, statusSeen := false, announced := false, idMatch := .unknown, identity := none
      missStreak := 0, attachTimer := s.timer s.dlc.attachTimeout, pollTimer := s.timer s.dlc.pollPeriod
      draw := s.dlc.defaultDraw }
    inflight := s.inflight
      ++ (if s.dlc.state = .attaching then [] else [.haeDockStateDelivery .attaching, .pclDockStateDelivery .attaching])
      ++ if s.dlc.defaultDraw = s.dlc.draw then [] else [.drawDelivery s.dlc.defaultDraw] } := by
  simp [enterAttaching, recomputeDraw_eq, setDockState_eq, State.setDlc, Dlc.budget]
  rfl

/-- Entry into MUTE (R26). -/
theorem enterMute_eq (s : State) : enterMute s = { s with
    dlc := { s.dlc with
      state := .mute, undelivered := 0
      draw := if s.dlc.statusSeen then s.dlc.statusDraw else s.dlc.defaultDraw }
    inflight := s.inflight
      ++ (if s.dlc.state = .mute then [] else [.haeDockStateDelivery .mute, .pclDockStateDelivery .mute])
      ++ (if (if s.dlc.statusSeen then s.dlc.statusDraw else s.dlc.defaultDraw) = s.dlc.draw then []
          else [.drawDelivery (if s.dlc.statusSeen then s.dlc.statusDraw else s.dlc.defaultDraw)])
      ++ [.recordOffer (.dockEvent .mute .mute s.dlc.undelivered s.stamp)] } := by
  simp [enterMute, dockEvent_eq, recomputeDraw_eq, setDockState_eq, Dlc.budget]

end Sys2Proof.Machine
end

