-- ==== Sys2Proof/Laws/LinkQueue.lean ====
section
/-! SUPPORT. What taking up, leaving and joining the downstream queue do, and what answering a request does. -/

namespace Sys2Proof.Machine

/-! ### Taking up and leaving -/

/-- Taking up an idle head changes the head state and issues the head's command; nothing else. -/
theorem takeUp_of_idle (s : State) (h : s.hlm.head = .idle) :
    takeUp s = { s with
      hlm := { s.hlm with head := (nextHead s.hlm.queue).1 }
      inflight := s.inflight ++ (nextHead s.hlm.queue).2 } := by
  obtain ⟨_, _, _, _, _, _, _, _, _, _, _, _, hlm, _, _, _⟩ := s
  obtain ⟨_, _, _, q, _, _, _, _, _, _, _, _, _, _⟩ := hlm
  subst h
  cases q with
  | nil => simp [takeUp, nextHead]
  | cons f q =>
    obtain ⟨kind, tag, payload⟩ := f
    cases kind <;> simp [takeUp, nextHead, State.emit, State.emits, State.setHlm]

/-- A head that is not idle is not taken up. -/
theorem takeUp_of_busy (s : State) (h : s.hlm.head ≠ .idle) : takeUp s = s := by
  unfold takeUp
  split
  · contradiction
  · rfl

/-- The head's departure: the queue, BUSY, the head state and the next head's command; nothing else. -/
theorem departHead_eq (s : State) :
    departHead s = { s with
      hlm := { s.hlm with
        queue := s.hlm.queue.tail
        head := (nextHead s.hlm.queue.tail).1
        busy := if s.hlm.queue.tail.length ≤ s.hlm.busyOff then false else s.hlm.busy }
      inflight := s.inflight ++ (nextHead s.hlm.queue.tail).2 } := by
  rw [departHead, takeUp_of_idle _ rfl]
  rfl

/-! ### Answering -/

/-- Everything that answering a request does. -/
theorem answer_replied (c : Instr) (tag code : Byte) (status : Status) (row : Byte) (data : List Byte) (u : State) :
    replied c tag code status row data u (answer c tag code status row data u) := by
  unfold replied answer
  by_cases h : headIs c u = true
  · have h' : headIs c (u.offer (.response tag code status row data false)) = true := h
    rw [if_pos h', departHead_eq]
    simp only [h, if_true, true_and]
    exact ⟨by simp [kept], by simp, rfl⟩
  · have h' : ¬ headIs c (u.offer (.response tag code status row data false)) = true := h
    rw [if_neg h']
    simp only [h]
    exact ⟨by simp [kept], by simp, rfl⟩

/-- Answering leaves every block but the host link as it was. -/
theorem answer_kept (c : Instr) (tag code : Byte) (status : Status) (row : Byte) (data : List Byte) (u : State) :
    kept [.hlm] u (answer c tag code status row data u) :=
  (answer_replied c tag code status row data u).1

/-! ### Joining -/

/-- A frame that joins a queue with room stands at its tail, and BUSY is asserted when BUSY_ON frames are there. -/
theorem joinQueue_of_room (kindByte : Byte) (f : DownFrame) (s : State) (h : s.hlm.queue.length < 8)
    (h' : s.hlm.queue ≠ []) :
    joinQueue kindByte f s = s.setHlm { s.hlm with
      queue := s.hlm.queue ++ [f]
      busy := if s.hlm.busyOn ≤ s.hlm.queue.length + 1 then true else s.hlm.busy } := by
  simp [joinQueue, h, h', Hlm.busyJoined]

/-- A frame that meets 8 frames is lost: the overrun count increases, and a FAULT record is offered. -/
theorem joinQueue_of_full (kindByte : Byte) (f : DownFrame) (s : State) (h : ¬ s.hlm.queue.length < 8) :
    joinQueue kindByte f s =
      (s.setHlm { s.hlm with overruns := satAdd 65535 s.hlm.overruns 1 }).offer
        (.fault (.downstreamOverrun kindByte f.tag) s.stamp) := by
  simp [joinQueue, h]

end Sys2Proof.Machine
end

