-- ==== Sys2Proof/Laws/Upstream.lean ====
section
/-! SUPPORT. What the shared steps of the upstream engine do, and what they leave alone. -/

namespace Sys2Proof.Machine

/-! ### Transmission -/

/-- While HOLD is asserted no frame begins. -/
theorem tryBegin_of_hold (s : State) (h : s.ufe.hold = true) : tryBegin s = s := by
  simp [tryBegin, h]

/-- While a frame is in transmission no other begins. -/
theorem tryBegin_of_sending (s : State) (h : s.ufe.sending.isSome) : tryBegin s = s := by
  cases h' : s.ufe.sending <;> simp_all [tryBegin]

/-- After the loss of the final RESPONSE no frame begins. -/
theorem tryBegin_of_lost (s : State) (h : s.ufe.finalLost ≠ none) : tryBegin s = s := by
  cases h' : s.ufe.finalLost <;> simp_all [tryBegin]

/-- The transmitter's test touches the upstream engine alone. -/
theorem tryBegin_frame (s : State) : tryBegin s = s.setUfe (tryBegin s).ufe := by
  unfold tryBegin
  split
  · split <;> rfl
  · rfl

/-- The transmitter's test never makes the queue longer. -/
theorem tryBegin_length (s : State) : (tryBegin s).ufe.queue.length ≤ s.ufe.queue.length := by
  unfold tryBegin
  split
  · split
    · simp only [beginFrame, Ufe.setGap, withoutOldest, State.setUfe]
      exact List.length_eraseP_le
    · exact Nat.le_refl _
  · exact Nat.le_refl _

/-! ### Losses -/

/-- A loss counts a gap of the frame's stream, and marks the TAG of a RESPONSE; the queue is left as it is. -/
theorem lose_queue (f : Frame) (s : State) : (lose f s).ufe.queue = s.ufe.queue := by
  simp only [lose]
  split
  · split <;> rfl
  · rfl

/-- A lost frame counts a gap of its stream. The TAG of a lost RESPONSE is left with the host link, and that of a final one
waits in the upstream engine. -/
theorem lose_eq (g : Frame) (s : State) : lose g s = { s with
    ufe := { s.ufe with
      gaps := s.ufe.gaps.set g.stream.id (min 255 (s.ufe.gap g.stream + 1))
      finalLost := if g.stream = .response ∧ g.final = true then some g.tag else s.ufe.finalLost }
    hlm := { s.hlm with
      lastLost := if g.stream = .response ∧ g.final = false then some g.tag else s.hlm.lastLost } } := by
  by_cases h : g.stream = .response <;> cases h' : g.final <;>
    simp [lose, h, h', countGap, Ufe.setGap, State.setUfe, State.setHlm, satAdd]

/-- No loss waits: nothing is settled. -/
theorem settleLoss_of_none (s : State) (h : s.ufe.finalLost = none) : settleLoss s = s := by
  simp [settleLoss, h]

/-- A loss behind a frame in transmission waits for it. -/
theorem settleLoss_of_waits (s : State) (h : s.ufe.finalLost ≠ none → s.ufe.sending ≠ none) : settleLoss s = s := by
  unfold settleLoss
  split
  · simp_all
  · rfl

/-- Carrying out a SOFT_RESET leaves the reset state, but for what the manual keeps. -/
theorem softResetCarriedOut_eq (s : State) : softResetCarriedOut s = afterSoftReset s := by
  simp only [softResetCarriedOut, afterSoftReset, State.reset, dlcSoftReset, abandonExchange, State.setDlc, hlmSoftReset,
    State.exchanging, Timer.rebased, ufeReset, hlmReset]
  cases s.dlc.exchange <;> cases s.hlm.gapTimer <;> rfl

/-! ### Admission -/

/-- A frame joins the queue at its tail, or begins at once where the transmitter is idle and HOLD clear. -/
theorem enqueue_joined (f : Frame) (s : State) (h : transmitterSettled s) :
    enqueue f s = s.setUfe (s.ufe.joined f) := by
  obtain ⟨h1, h2⟩ := h
  by_cases hb : s.ufe.sending = none ∧ s.ufe.hold = false
  · have hq := h2 hb.1 hb.2
    have hl : s.ufe.finalLost = none := by
      by_contra hn
      exact h1 hn hb.1
    cases hc : f.cls <;>
      simp [enqueue, tryBegin, beginFrame, Ufe.joined, nextClass, oldest, withoutOldest, Ufe.setGap, Ufe.gap,
        State.setUfe, hb, hq, hl, hc]
  · rw [enqueue, Ufe.joined, if_neg hb]
    unfold tryBegin
    rw [if_neg]
    rintro ⟨a, b, -⟩
    exact hb ⟨by simpa using a, b⟩

/-- A frame joins under HOLD at the tail, and nothing else happens. -/
theorem enqueue_of_hold (f : Frame) (s : State) (h : s.ufe.hold = true) :
    enqueue f s = s.setUfe { s.ufe with queue := s.ufe.queue ++ [f] } :=
  tryBegin_of_hold _ h

/-- A frame of any class that meets room for all of them joins the queue. -/
theorem admitFrame_of_room (f : Frame) (s : State) (h : s.ufe.queue.length < 48) (h' : s.ufe.lowerCount < 40) :
    admitFrame f s = enqueue f s := by
  cases hc : f.cls <;> simp [admitFrame, hc, h, h']

/-- The transmitter's test leaves the routing, the forwarding state and the part time alone. -/
theorem tryBegin_keeps (s : State) :
    (tryBegin s).ufe.active = s.ufe.active ∧ (tryBegin s).ufe.pending = s.ufe.pending
      ∧ (tryBegin s).ufe.column = s.ufe.column ∧ (tryBegin s).ufe.fwd = s.ufe.fwd
      ∧ (tryBegin s).partTime = s.partTime := by
  unfold tryBegin
  split
  · split <;> simp [beginFrame, State.setUfe, Ufe.setGap]
  · simp

/-- An admission leaves the routing, the forwarding state and the part time alone. -/
theorem admitFrame_keeps (f : Frame) (s : State) :
    (admitFrame f s).ufe.active = s.ufe.active ∧ (admitFrame f s).ufe.pending = s.ufe.pending
      ∧ (admitFrame f s).ufe.column = s.ufe.column ∧ (admitFrame f s).ufe.fwd = s.ufe.fwd
      ∧ (admitFrame f s).partTime = s.partTime := by
  have joins (v : State) := tryBegin_keeps (v.setUfe { v.ufe with queue := v.ufe.queue ++ [f] })
  simp only [admitFrame, enqueue]
  repeat' split
  all_goals first
    | exact joins _
    | (rw [lose_eq]; simp)
    | (simp only [joins, evict, lose_eq]; simp)

/-- An evicted frame's queue is one shorter in that class. -/
theorem withoutOldest_length (c : FrameClass) (q : List Frame) : (withoutOldest c q).length ≤ q.length :=
  List.length_eraseP_le

/-! ### Forwarding state -/

/-- A stream's forwarding state is read back; another stream's is as before. -/
theorem setFwd_fwdAt (i j : Nat) (f : Forwarding) (s : State) (h : i < s.ufe.fwd.length) :
    (setFwd i f s).ufe.fwdAt j = if i = j then f else s.ufe.fwdAt j := by
  simp only [setFwd, Ufe.fwdAt, State.setUfe_ufe, List.getD_eq_getElem?_getD]
  by_cases hij : i = j
  · subst hij
    simp [h]
  · simp [List.getElem?_set_ne hij, hij]

end Sys2Proof.Machine
end

