-- ==== Sys2Proof/Tests/Slice0.lean ====
section
/-! SUPPORT. Tests: the range checks refuse what they should, worked examples of the manual come out as it tells them, and
each statement of Obligations.lean has a state and operands that meet its hypotheses (`witness_…`). -/

namespace Sys2Proof.Tests

open Machine

-- The theorems below are checked by the kernel one after another, not all at once.
set_option Elab.async false

/-! ### Helpers: small states and what a command leaves -/

/-- The state a command leaves. -/
def after (c : Instr) (s : State) : State :=
  match exec c s with
  | .next t => t
  | _ => s

/-- The state several commands leave, one after another. -/
def afterAll (cs : List Instr) (s : State) : State := cs.foldl (fun t c => after c t) s

/-- The state some milliseconds later. -/
def later (ms : Nat) (s : State) : State := { s with partTime := s.partTime + BitVec.ofNat 32 ms }

/-- A timer that ran out at reset's part time. -/
def due : Timer := .running 0

def lspWith (f : Lsp → Lsp) : State := State.reset.setLsp (f State.reset.lsp)
def dlcWith (f : Dlc → Dlc) : State := State.reset.setDlc (f State.reset.dlc)
def haeWith (f : Hae → Hae) : State := State.reset.setHae (f State.reset.hae)
def rotWith (f : RotUnit → RotUnit) : State := State.reset.setRot (f State.reset.rot)
def pclWith (f : Pcl → Pcl) : State := State.reset.setPcl (f State.reset.pcl)
def aluWith (f : Alu → Alu) : State := State.reset.setAlu (f State.reset.alu)
def pchWith (f : Pch → Pch) : State := State.reset.setPch (f State.reset.pch)
def swaWith (f : Swa → Swa) : State := State.reset.setSwa (f State.reset.swa)
def ufeWith (f : Ufe → Ufe) : State := State.reset.setUfe (f State.reset.ufe)
def hlmWith (f : Hlm → Hlm) : State := State.reset.setHlm (f State.reset.hlm)

/-- A request frame and a dock item frame. -/
def request (tag : Byte) (payload : List Byte) : DownFrame := { kind := .request, tag := tag, payload := payload }
def item (tag : Byte) (payload : List Byte) : DownFrame := { kind := .dockItem, tag := tag, payload := payload }

/-- A frame of a class on a stream. -/
def frame (st : Stream) (cls : FrameClass) : Frame :=
  { stream := st, batch := false, cls := cls, payload := [], time := 0, final := false }

/-- `n` frames of a class. -/
def frames (n : Nat) (cls : FrameClass) : List Frame := List.replicate n (frame .key cls)

/-- An exchange awaiting poll number 7. -/
def exchange7 (riding answering : Bool) : Exchange :=
  { poll := 7, riding := riding, answering := answering, timeout := 1000 }

/-- An attached dock with an exchange in progress. -/
def attached (riding : Bool) : State :=
  dlcWith fun d => { d with state := .attached, exchange := some (exchange7 riding true), queue := [⟨[1], 7⟩] }

/-- Both accelerometers still, fresh and level, with an attached dock. -/
def levelHinge (f : Hae → Hae) : State :=
  haeWith fun h => f { h with
    dock := .attached, lid := some ⟨⟨0, 0, 4096⟩, 0⟩, base := some ⟨⟨0, 0, 4096⟩, 0⟩, quality := .good }

/-! ### Range checks: an ill-formed term for each -/

theorem test_wf_refuses_operands :
    [ Instr.answerEnd [], .answerEnd [0x5B, 0, 1, 0, 0], .answerEnd [0x5A, 0, 1, 0],
      .dockItemHandover (List.replicate 17 0), .computation ⟨.lid, ⟨32768, 0, 0⟩, 0⟩,
      .lidVectorDelivery ⟨0, -32769, 0⟩, .lidVectorDelivery ⟨0, 0, 32768⟩, .hingeDelivery (some 5761) .good .up,
      .drawDelivery 1001, .ssuResultDelivery .allow 1024 false, .intervalEnd 2048, .flushTimerExpiry .hinge,
      .requestUnknownCode 0 [0x01], .requestUnknownCode 0 (List.replicate 61 0xFF),
      .writeRowsMountLid 0 0 1 (List.replicate 57 0), .writeRowsMountBase 0 0 1 (List.replicate 57 0),
      .writeRowsPosture 0 0 1 (List.replicate 57 0), .writeRowsRoute 0 0 1 (List.replicate 57 0),
      .writeRowsProfile 0 0 1 (List.replicate 57 0), .writeRowsAction 0 0 1 (List.replicate 57 0) ].all
      (fun c => !wf c) = true := by decide +kernel

theorem test_wf_refuses_records :
    [ Record.lidSample ⟨-32769, 0, 0⟩ 0, .baseSample ⟨0, 0, 32768⟩ 0, .hinge (some 5761) .good none 0,
      .hinge none .good (some 5760) 0, .posture none .flat 16 none .absent 0,
      .posture none .flat 0 (some 5761) .absent 0, .key false 0 (List.replicate 7 4) 0, .dockStatus 1001 0 0 0,
      .dockEvent .mute .mute 256 0, .penEvent true (.charging 6) 0, .chargeTelemetry (.charging 6) none 0 0 0 0,
      .chargeTelemetry .done none 1024 0 0 0, .chargeTelemetry .done none 0 2048 0 0,
      .chargeTelemetry .done none 0 0 1024 0, .response 0 1 .ok 0xFF (List.replicate 57 0) false,
      .fault (.charger .overcurrent (some 6) 0) 0, .fault (.charger .overcurrent none 2048) 0 ].all
      (fun r => !wf (.recordOffer r)) = true := by decide +kernel

theorem test_wf_admits_ends_of_ranges :
    [ Instr.answerEnd (answerWire 0xFF true []), .dockItemHandover (List.replicate 16 0),
      .computation ⟨.base, ⟨-32768, 32767, 0⟩, 0⟩, .hingeDelivery (some 5760) .good .up, .drawDelivery 1000,
      .ssuResultDelivery .deny 1023 true, .intervalEnd 2047, .flushTimerExpiry .chargeTelemetry,
      .requestUnknownCode 0 [], .requestUnknownCode 0 (List.replicate 60 0xFF),
      .writeRowsProfile 0 0 5 (List.replicate 56 0), .recordOffer (.posture none .slate 15 (some 0) .mute 0) ].all
      wf = true := by decide +kernel

/-! ### Worked examples of the manual -/

/-- 11.2: the register over an IDENTIFY with TAG 0x05. -/
theorem test_crc_of_identify :
    [crc8 [0x40], crc8 [0x40, 0x01], crc8 [0x40, 0x01, 0x05], crc8 [0x40, 0x01, 0x05, 0x01]]
      = [0xC7, 0x5C, 0x88, 0xB6] := by decide +kernel

/-- 1.1.3: a bouncing hall line, sampled low = active. -/
theorem test_bouncing_hall :
    (([false, true, false, false, false, true, false, false].foldl
      (fun (a : LineFilter × List (Nat × Bool × Option Bool)) pin =>
        let r := a.1.sample pin
        (r.1, a.2 ++ [(r.1.count, r.1.level, r.2)])) (LineFilter.initial 3 true, [])).2)
      = [(1, false, none), (0, false, none), (1, false, none), (2, false, none), (0, true, some true),
         (1, true, none), (0, true, none), (0, true, none)] := by decide +kernel

/-- 1.2.5: three failed reads stall the port. -/
theorem test_stall_and_restart :
    let read (identity : Byte) (newData : Bool) (s : State) : State :=
      afterAll [.sampleTimerExpiry, .readCompletion identity newData 0 0 0] (later 10 s)
    let s := read 0x4A false (read 0xFF true (read 0xFF true State.reset))
    (s.lsp.outcome, s.lsp.streak, s.lsp.port, s.lsp.timer) = (.noNewData, 3, .stalled, .cancelled)
      ∧ (after (.restartPortLid 1) s).lsp.streak = 0 ∧ (after (.restartPortLid 1) s).lsp.port = .running := by
  decide +kernel

/-- 1.3.3: a sensor turned on the board. -/
theorem test_turned_sensor :
    let m : Mount := { srcX := ⟨.y, true⟩, srcY := ⟨.x, false⟩, srcZ := ⟨.z, false⟩, offset := ⟨-40, 25, 4⟩
                       identity := 0x4A }
    m.map ⟨120, -32768, 4100⟩ = ⟨32767, 95, 4096⟩ ∧ m.map ⟨0, 0, 4100⟩ = ⟨40, -25, 4096⟩ := by decide +kernel

/-- 3.3.2: the filter at k = 2. -/
theorem test_filter_steps :
    [filterAxis 2 1000 1100, filterAxis 2 1025 990, filterAxis 2 1017 990, filterAxis 2 993 990]
      = [1025, 1017, 1011, 993] := by decide +kernel

/-- 3.4.5: a raw hinge of 110 degrees. -/
theorem test_raw_hinge_110 :
    direction 0 4096 = 1440 ∧ direction 3849 1401 = 320
      ∧ rawHinge { haeReset with lid := some ⟨⟨0, 3849, 1401⟩, 0⟩, base := some ⟨⟨0, 0, 4096⟩, 0⟩ } = 1760 := by
  decide +kernel

/-- 3.4.7: tracking at the wrap. -/
theorem test_tracking_at_the_wrap :
    let clear (t r : Nat) := track { haeReset with tracked := some t } r
    [clear 5700 20, clear 5760 40, clear 30 5750, track { haeReset with tracked := some 5760, rear := true } 20,
     track { haeReset with tracked := some 0, front := true } 5750,
     track { haeReset with tracked := some 0, front := true } 35] = [5760, 5760, 0, 5760, 0, 35] := by decide +kernel

/-- 7.6.1: the pause decided by the order of two deliveries. -/
theorem test_pause_by_order :
    let s := after (.drawDelivery 700) State.reset
    let a := (afterAll [.allowanceDelivery .reduced, .drawDelivery 600] s).ssu
    let d := (afterAll [.drawDelivery 600, .allowanceDelivery .reduced] s).ssu
    (s.ssu.coilCeiling, s.ssu.dutyCeiling, s.ssu.budgetPause) = (150, 128, false)
      ∧ (a.coilCeiling, a.dutyCeiling, a.budgetPause) = (125, 106, true)
      ∧ (d.coilCeiling, d.dutyCeiling, d.budgetPause) = (125, 106, false) := by decide +kernel

/-- 11.3.1: a dock item that blocks a request. -/
theorem test_item_blocks_requests :
    let s := dlcWith fun d => { d with state := .attached, queue := List.replicate 4 ⟨[1], 0⟩ }
    let s1 := after (.dockItemHandover [5]) (joinQueue 0x41 (item 1 [5]) s)
    let s2 := joinQueue 0x41 (item 4 [6]) (joinQueue 0x40 (request 3 [0x09, 1]) (joinQueue 0x40 (request 2 [0x02, 1]) s1))
    let s3 := joinQueue 0x41 (item 6 [8]) (joinQueue 0x41 (item 5 [7]) s2)
    let s4 := after .dockRoomNotice (popItem s3)
    let s5 := after (.getStatus 2 1) s4
    let s6 := afterAll [.setRotationLock 3 1, .dockItemHandover [6]] s5
    (s1.hlm.head, s1.hlm.busy) = (.waitingForDockRoom, false) ∧ s2.hlm.busy = false ∧ s3.hlm.busy = true
      ∧ (s4.hlm.head, s4.hlm.queue.length, s4.hlm.busy) = (.executing, 5, true)
      ∧ (s5.hlm.head, s5.hlm.queue.length, s5.hlm.busy) = (.executing, 4, true)
      ∧ (s6.hlm.head, s6.hlm.queue.length, s6.hlm.busy) = (.waitingForDockRoom, 3, true) := by decide +kernel

/-- 2.10.2: a detach with an item in flight and a key held, and an item handed over afterwards. -/
theorem test_detach_with_item :
    let s := dlcWith fun d => { d with
      state := .attached, nextPoll := 42, exchange := some { exchange7 true false with poll := 41 }
      queue := [⟨[1], 2⟩, ⟨[2], 0⟩], heldCodes := [4] }
    let t := after (.dockContactEvent false 0) s
    (t.dlc.state, t.dlc.queue, t.dlc.undelivered, t.dlc.heldCodes, t.dlc.exchange) = (.absent, [], 0, [], none)
      ∧ .recordOffer (.dockEvent .detached .absent 2 0) ∈ t.inflight
      ∧ .recordOffer (.dockEvent .itemsDropped .absent 1 0) ∈ (after (.dockItemHandover [3]) t).inflight
      ∧ (after .pollTimerExpiry (later 8 (after (.dockContactEvent true 0) t))).dlc.wire.take 2 = [0xA5, 42] := by decide +kernel

/-- 3.11.1: the turn of more than half a circle, and the anchor and the rear row that follow. -/
theorem test_turn_while_held :
    circDiff 1760 4800 = -2720 ∧ moveTracked 1760 4800 = 0 ∧ hallRow .rear 5712 = 5712 ∧ hallRow .rear 0 = 5760 := by
  decide +kernel

/-- 4.8.1: at the hysteresis boundary. -/
theorem test_rotation_boundary :
    direction 2048 3547 = 960 ∧ direction 2896 2896 = 720
      ∧ selectCandidate .rot0 960 240 = some .rot90 ∧ selectCandidate .rot0 720 240 = none
      ∧ tiltPasses 2048 ⟨3547, 2048, 0⟩ = true := by decide +kernel

/-- 5.10.1: the rows that match while the lid is folded from laptop to tablet. -/
theorem test_fold_matches :
    let p (h : Option Nat) (q : Quality) (f : BaseFace) (rear : Bool) : Option Nat :=
      matchedRow { pclReset with hinge := h, quality := q, face := f, dock := .attached, rear := rear }
    [p (some 2000) .moving .up false, p (some 2600) .moving .up false, p (some 3300) .moving .up false,
     p (some 4800) .moving .edge false, p (some 4800) .good .edge false, p (some 5400) .moving .down false,
     p (some 5400) .moving .down true, p none .noBase .unknown true]
      = [some 3, some 4, none, none, some 6, some 5, some 2, some 2] := by decide +kernel

/-- 7.8.2: a heavy dock and the hysteresis band. -/
theorem test_hysteresis_band :
    (([700, 760, 720, 800, 690, 740].foldl (fun (a : State × List (Nat × Nat × Bool)) d =>
      let s := after (.drawDelivery d) a.1
      (s, a.2 ++ [(s.ssu.coilCeiling, s.ssu.dutyCeiling, s.ssu.budgetPause)])) (State.reset, [])).2)
      = [(150, 128, false), (90, 76, true), (130, 110, true), (50, 42, true), (160, 136, false), (110, 93, false)] := by
  decide +kernel

/-- 8.9.1: insertion to the first regulation of the precharge stage. -/
theorem test_insertion_to_precharge :
    let s := after (.penInsertion 0) (pchWith fun p => { p with dutyCeiling := 529 })
    let run (n : Nat) : Pch := (afterAll (([0, 68, 71, 70, 71, 63].take n).map .intervalEnd) s).pch
    [run 1, run 2, run 3, run 4, run 5, run 6].map (fun p => (p.state, p.staged, p.applied, p.elapsed))
      = [(.probe, 64, 64, 0), (.probe, 64, 64, 0), (.probe, 64, 64, 0), (.charging 0, 64, 64, 0),
         (.charging 0, 56, 56, 10), (.charging 0, 56, 56, 20)] := by decide +kernel

/-- 9.8.1: a key press right after idle advice, and the declaration it catches. -/
theorem test_key_against_advice :
    let s : State := { swaWith fun a => { a with cls := .idle, advice := some .idle } with partTime := 121000 }
    let t := after .keyOccurrence s
    let u := after (.setPlatformStateAsleep 1) { t with partTime := 121030 }
    let v := after .keyOccurrence { u with partTime := 121090 }
    (t.swa.advice, t.swa.idleTimer, t.swa.lastWake) = (none, .running 241000, some 121000)
      ∧ (u.swa.wakeRaised, u.swa.wakeSet) = (true, 0x100)
      ∧ (v.swa.wakeSet, v.swa.idleTimer) = (0x102, .running 241090)
      ∧ (after (.setPlatformStateAwake 2) { v with partTime := 121400 }).swa.wakeSet = 0 := by decide +kernel

/-- 10.5: overflow under HOLD. The frame lost at each admission is seen in the gap counts. -/
theorem test_overflow_under_hold :
    let f (st : Stream) (cls : FrameClass) := frame st cls
    let lows : List Frame := (List.replicate 9 [f .lidSample .low, f .baseSample .low]).flatten
    let s := ufeWith fun u => { u with
      hold := true, queue := frames 6 .high ++ List.replicate 22 (f .pointer .normal) ++ lows }
    let t := [f .lidSample .low, f .pointer .normal, f .key .high, f .posture .high, f .sleep .high, f .dockStatus .low,
      f .hinge .normal].foldl (fun t g => admitFrame g t) s
    [classCount .high t.ufe.queue, classCount .normal t.ufe.queue, classCount .low t.ufe.queue] = [9, 24, 15]
      ∧ t.ufe.gaps = [3, 1, 0, 0, 0, 0, 0, 1, 0, 0, 0, 0, 0, 0, 0]
      ∧ (after (.holdChange false) t).ufe.sending = some ⟨f .key .high, 0⟩ := by decide +kernel

/-- 0.4: of two lines that one sample changes, either may reach a consumer first; of one line, and of two samples, only the
older. -/
theorem test_lines_of_one_sample :
    let rear := Instr.haeHallEvent .rear true 5
    takeable rear [.haeHallEvent .front true 5, rear] = true
      ∧ takeable rear [.haeHallEvent .rear false 5, rear] = false
      ∧ takeable rear [.haeHallEvent .front true 4, rear] = false
      ∧ takeable rear [.haeDockStateDelivery .absent, rear] = true := by decide +kernel

/-- R12, R180: the answer to a restart stays behind the FAULT of the stall, and the answer to a declaration behind its WAKE
record; each may pass a record of another block. -/
theorem test_answers_stay_behind :
    let answer (code : Byte) : Instr := .recordOffer (.response 1 code .ok 0xFF [] false)
    let fault := Instr.recordOffer (.fault .lidPortStalled 0)
    let wake := Instr.recordOffer (.sleep (.wake .recentActivity 0x100) 0)
    takeable (answer 0x0C) [fault, answer 0x0C] = false ∧ takeable (answer 0x08) [wake, answer 0x08] = false
      ∧ takeable (answer 0x08) [fault, answer 0x08] = true ∧ takeable fault [wake, answer 0x0C, fault] = true := by
  decide +kernel

/-! ### Witnesses: states and operands that meet the hypotheses of the statements -/

theorem witness_StepTakesFront :
    { State.reset with pending := [.noVector, .penInsertion 0] }.pending = .noVector :: [.penInsertion 0]
      ∧ ((State.reset.emit .noVector).pending = [] ∧ (State.reset.emit .noVector).inflight = [.noVector])
      ∧ State.reset.pending = [] ∧ State.reset.inflight = [] := by decide +kernel

/-- Times to run at both ends; timers that are not due; a port that can be turned off; deliveries that replace a candidate;
a commit and an activity event. -/
theorem witness_ExpiriesDue :
    ((2 ^ 31 - 1 < 2 ^ 31) ∧ (Timer.running (0 + BitVec.ofNat 32 (2 ^ 31 - 1))).due (0 + BitVec.ofNat 32 (2 ^ 31 - 1)) = true)
      ∧ (State.reset.lsp.timer.due State.reset.partTime = false ∧ State.reset.dlc.pollTimer.due State.reset.partTime = false
        ∧ (State.reset.ufe.fwdAt Stream.lidSample.id).flush.due State.reset.partTime = false)
      ∧ (1 ≤ State.reset.lsp.samplePeriod ∧ State.reset.lsp.samplePeriod ≤ 100 ∧ State.reset.lsp.port ≠ .off)
      ∧ (let s := rotWith fun r => { r with candidate := some .rot180, timer := due }
         s.rot.rotDwell ≤ 2000 ∧ s.rot.timer.due s.partTime = true
           ∧ (after (.lidVectorDelivery ⟨3547, 2048, 0⟩) s).rot.candidate = some .rot90)
      ∧ (let s := pclWith fun p => { p with candidate := some 0, timer := due, dock := .attached, face := .up }
         let t := after (.hingeDelivery (some 1000) .good .up) s
         (∀ r ∈ s.pcl.active, r.dwell ≤ 5000) ∧ s.pcl.timer.due s.partTime = true ∧ t.pcl.candidate = some 3
           ∧ (t.pcl.rowAt 3).posture ≠ (s.pcl.rowAt 0).posture)
      ∧ ((∃ r ∈ State.reset.pcl.pending, r.inUse = true) ∧ ∀ r ∈ State.reset.pcl.pending, r.dwell ≤ 5000)
      ∧ State.reset.swa.idleTimeout ≤ 3600 := by decide +kernel

/-- A SOFT_RESET at the head, and the completion of a final RESPONSE, with a frame partly received, and of a frame behind which
the loss of one waits. -/
theorem witness_SoftReset :
    headIs (.softReset 5) (hlmWith fun h => { h with head := .executing, queue := [request 5 [0x0E]] }) = true
      ∧ (let s : State := { ufeWith fun u => { u with sending := some ⟨{ frame .response .high with final := true }, 0⟩ }
           with partTime := 9, hlm := { State.reset.hlm with rx := [⟨0xC3, 8⟩], gapTimer := .running 10 } }
         s.ufe.sending = some ⟨{ frame .response .high with final := true }, 0⟩ ∧ s.hlm.gapTimer = .running 10
           ∧ (after .frameCompletion s).hlm.gapTimer = .running 1
           ∧ (after .frameCompletion s).hlm.rx = [⟨0xC3, 0xFFFFFFFF⟩])
      ∧ (let s := ufeWith fun u => { u with sending := some ⟨frame .key .high, 0⟩, finalLost := some 5 }
         s.ufe.sending = some ⟨frame .key .high, 0⟩ ∧ s.ufe.finalLost ≠ none) := by decide +kernel

/-- A state at the bounds of the three queues, with commands waiting. -/
def fullState : State :=
  { State.reset with
    ufe := { State.reset.ufe with hold := true, queue := frames 8 .high ++ frames 40 .low }
    dlc := { State.reset.dlc with state := .attached, queue := List.replicate 4 ⟨[], 7⟩ }
    hlm := { State.reset.hlm with
      busy := true, head := .waitingForDockRoom, queue := List.replicate 8 (item 0 []) }
    hae := { State.reset.hae with raw := some 5759, tracked := some 5760, reported := some 0 }
    rot := { State.reset.rot with candidate := some .rot90, timer := .running 4 }
    swa := { State.reset.swa with platform := .asleep, wakeRaised := true, wakeSet := 2 }
    pending := [.recordOffer (.fault .lidPortStalled 0)] }

/-- The bounded state meets every invariant, and a step from it answers a next state. -/
theorem witness_bounds :
    (fullState.ufe.queue.length ≤ 48 ∧ fullState.ufe.lowerCount ≤ 40)
      ∧ (fullState.ufe.finalLost = none ∧ fullState.ufe.hold = true ∧ ∀ f ∈ fullState.ufe.queue, f.final = false)
      ∧ (fullState.hlm.queue.length ≤ 8 ∧ fullState.dlc.queue.length ≤ 4) ∧ (∀ i ∈ fullState.dlc.queue, i.offers < 8)
      ∧ (fullState.pch.active.length = 6 ∧ fullState.pch.active.head?.map ProfileRow.inUse = some true)
      ∧ ((∀ t ∈ fullState.hae.tracked, t ≤ 5760) ∧ ∀ r ∈ fullState.hae.raw, r < 5760)
      ∧ (fullState.rot.candidate.isSome ↔ fullState.rot.timer.isRunning)
      ∧ (fullState.swa.wakeRaised = true ↔ fullState.swa.wakeSet ≠ 0)
      ∧ (fullState.pch.applied = 0 ∧ fullState.pch.staged = 0)
      ∧ (fullState.hlm.busyOff < fullState.hlm.busyOn ∧ fullState.hlm.busy = true) := by decide +kernel

theorem witness_bounds_step : ∃ t, step fullState = .next t := ⟨_, rfl⟩

theorem witness_transmitter : transmitterSettled fullState ∧ finalsHigh fullState := by
  refine ⟨?_, ?_⟩ <;> simp only [transmitterSettled, finalsHigh] <;> decide +kernel

theorem witness_banks : banksShaped fullState ∧ firstStageInUse fullState := by
  refine ⟨?_, ?_⟩ <;> simp only [banksShaped, firstStageInUse] <;> decide +kernel

/-- Filters at stage counts 1 and 16. -/
theorem witness_LinesFiltered :
    (let f : LineFilter := ⟨16, true, 15, false⟩; (true != f.activeLow) = f.level)
      ∧ (let f : LineFilter := ⟨1, true, 0, false⟩; f.count = 0 ∧ 1 ≤ f.stages ∧ (false != f.activeLow) ≠ f.level)
      ∧ (let f : LineFilter := ⟨16, false, 0, true⟩; f.count = 0 ∧ 1 ≤ f.stages ∧ (false != f.activeLow) ≠ f.level)
      ∧ (let f : LineFilter := ⟨16, true, 14, false⟩; (if f.activeLow then !false else false) ≠ f.level ∧ f.count + 1 < f.stages)
      ∧ (let f : LineFilter := ⟨16, true, 15, false⟩
         (if f.activeLow then !false else false) ≠ f.level ∧ f.stages ≤ f.count + 1) := by
  decide +kernel

/-- A timer that is due; reads in progress with streaks 1 and 2, by identity and by new data. -/
theorem witness_LidReads :
    (later 10 State.reset).lsp.timer.due (later 10 State.reset).partTime = true
      ∧ (let s := lspWith fun l => { l with reading := true, streak := 1 }
         s.lsp.reading = true ∧ (0xFF : Byte) ≠ s.lsp.mount.identity ∧ s.lsp.streak < 2)
      ∧ (let s := lspWith fun l => { l with reading := true, streak := 2 }
         s.lsp.reading = true ∧ ((0x4A : Byte) ≠ s.lsp.mount.identity ∨ false = false) ∧ 2 ≤ s.lsp.streak) := by
  decide +kernel

/-- Maps at the ends of the sample range. -/
theorem witness_MountMapping :
    let s := lspWith fun l => { l with
      reading := true
      mount := { l.mount with srcX := ⟨.z, true⟩, srcZ := ⟨.x, false⟩, offset := ⟨-1, 2047, -2048⟩ } }
    s.lsp.reading = true
      ∧ (after (.readCompletion s.lsp.mount.identity true 0x7FFF 0x8000 0x8000) s).lsp.last
        = some ⟨.lid, ⟨32767, -32768, 32767⟩, 0⟩ := by decide +kernel

theorem witness_LidPortRequests :
    State.reset.lsp.port ≠ .off ∧ (lspWith fun l => { l with port := .off }).lsp.port = .off ∧ (1 : Byte) ≠ 0 := by
  decide +kernel

/-- A poll timer that is due, with and without an exchange; the end of a wait for an answer that has begun. -/
theorem witness_PollsAndWire :
    (let s := dlcWith fun d => { d with pollTimer := due }
     s.dlc.pollTimer.due s.partTime = true ∧ s.dlc.exchange = none)
      ∧ (let s := dlcWith fun d => { d with pollTimer := due, state := .mute, exchange := some (exchange7 true true) }
         s.dlc.pollTimer.due s.partTime = true ∧ s.dlc.exchange = some (exchange7 true true)
           ∧ (exchange7 true true).answering = true)
      ∧ (let s := dlcWith fun d => { d with exchange := some (exchange7 true false), stray := true }
         s.dlc.stray = true ∧ s.dlc.exchange ≠ none) := by decide +kernel

/-- A timeout, a cut-off, and answers that are CORRUPT, MISS and MALFORMED; the last at the miss limit. -/
theorem witness_ExchangeFails :
    (dlcWith fun d => { d with exchange := some (exchange7 false false) }).dlc.exchange = some (exchange7 false false)
      ∧ (exchange7 false false).answering = false
      ∧ ((attached true).dlc.exchange = some (exchange7 true true) ∧ (attached true).dlc.stray = false)
      ∧ classifyAnswer 7 [0x5A] = .failed .corrupt ∧ classifyAnswer 7 (answerWire 8 false []) = .failed .miss
      ∧ classifyAnswer 7 [0x5A, 7, 0, crc8 [7, 0]] = .failed .malformed
      ∧ (let s := (attached true).setDlc { (attached true).dlc with missStreak := 2 }
         s.dlc.state = .attached ∧ s.dlc.missLimit ≤ min 255 (s.dlc.missStreak + 1)) := by decide +kernel

/-- Four records at the ends of their ranges. -/
def fourRecords : List DockRecord :=
  [.status 1000 0x5C 0xFF, .baseMotion (-32768) 32767 0 true, .pointer 0xFF 0x80 7 1, .key 1 [4, 5, 6, 7, 8, 9]]

theorem witness_AnswerReadsBack :
    fourRecords.length ≤ 4 ∧ (fourRecords.map DockRecord.kind).Nodup
      ∧ (∀ r ∈ fourRecords, (match r with
          | .key _ codes => decide (codes.length ≤ 6)
          | .baseMotion x y z _ => inSample x && inSample y && inSample z
          | .status draw _ _ => decide (draw ≤ 1000)
          | .pointer _ _ _ _ => true) = true)
      ∧ classifyAnswer 7 (answerWire 7 true fourRecords) = .good true fourRecords := by decide +kernel

/-- Records followed by the bytes of each structural fault, at the ends of its length; too many records and two of a kind. -/
theorem witness_AnswerReadsBack_malformed :
    let malformed (records : List DockRecord) (tail : List Byte) : Bool :=
      let body : List Byte := 0 :: records.flatMap DockRecord.bytes ++ tail
      let checked := 7 :: byteOf body.length :: body
      body.length ≤ 255 && classifyAnswer 7 (0x5A :: checked ++ [crc8 checked]) == .failed .malformed
    ((List.replicate 42 (DockRecord.pointer 0 0 0 0)).flatMap DockRecord.bytes ++ [1, 0]).length = 254
    ∧ [malformed (fourRecords ++ [.key 0 []]) [], malformed [.key 0 [], .key 0 []] [], malformed fourRecords [0, 0],
     malformed [] [5, 1, 9, 1], malformed [] [1, 0], malformed [] [1, 8, 0, 0, 0, 0, 0, 0, 0, 0], malformed [] [2, 3, 0, 0, 0],
     malformed [] [3, 8, 0, 0, 0, 0, 0, 0, 0, 0], malformed [] [4, 5, 0, 0, 0, 0, 0], malformed [] [4],
     malformed fourRecords [2, 4, 0, 0, 0]].all id
      = true := by decide +kernel

/-- GOOD answers, with a STATUS and without one, in all five dock states, with an item at its last offer. -/
theorem witness_ExchangeGood :
    [DockState.attaching, .mute, .attached, .absent, .unpowered].all (fun st =>
      let s := dlcWith fun d => { d with
        state := st, exchange := some (exchange7 true true), queue := [⟨[1], 7⟩], announced := true }
      decide (((exchange7 true true).riding = true ∧ s.dlc.queue.head?.any (fun i => 7 ≤ i.offers) = true)
        ∧ s.dlc.announced = true ∧ State.reset.dlc.announced = false ∧ s.dlc.exchange = some (exchange7 true true) ∧ s.dlc.stray = false
        ∧ classifyAnswer (exchange7 true true).poll (answerWire 7 false [.status 0 0x5C 0]) = .good false [.status 0 0x5C 0]
        ∧ classifyAnswer (exchange7 true true).poll (answerWire 7 true []) = .good true [])) = true := by decide +kernel

/-- One record of each kind in an attached dock. -/
theorem witness_DockRecordsHandled :
    fourRecords.all (fun r =>
      decide ((attached false).dlc.exchange = some (exchange7 false true) ∧ (exchange7 false true).riding = false
        ∧ (attached false).dlc.stray = false ∧ (attached false).dlc.state = .attached
        ∧ classifyAnswer (exchange7 false true).poll (answerWire 7 false [r]) = .good false [r]
        ∧ classifyAnswer (exchange7 false true).poll (answerWire 7 false fourRecords) = .good false fourRecords)) = true := by
  decide +kernel

theorem witness_DockArrives :
    (State.reset.dlc.state = .absent ∧ State.reset.dlc.al0 = true)
      ∧ (let s := dlcWith fun d => { d with state := .unpowered, al0 := false }
         s.dlc.state = .unpowered ∧ s.dlc.al0 = false)
      ∧ (let s := dlcWith fun d => { d with al0 := false }; s.dlc.state = .absent ∧ s.dlc.al0 = false)
      ∧ (let s := dlcWith fun d => { d with state := .attaching, attachTimer := due }
         s.dlc.attachTimer.due s.partTime = true ∧ s.dlc.state = .attaching)
      ∧ true = State.reset.dlc.al0
      ∧ (let s := dlcWith fun d => { d with state := .unpowered }; false ≠ s.dlc.al0 ∧ s.dlc.state = .unpowered)
      ∧ (let s := dlcWith fun d => { d with state := .mute, al0 := false }
         true ≠ s.dlc.al0 ∧ s.dlc.state.live = true) := by decide +kernel

theorem witness_DockTornDown :
    (attached true).dlc.state ≠ .absent ∧ (attached true).dlc.state.live = true ∧ (attached true).dlc.al0 = true
      ∧ (dlcWith fun d => { d with state := .unpowered }).dlc.state ≠ .absent := by decide +kernel

/-- A held key and a held button under PASS. -/
theorem witness_GatesDelivered :
    let s := dlcWith fun d => { d with heldCodes := [4], heldButtons := 1 }
    s.dlc.keyGate = .pass ∧ s.dlc.heldCodes ≠ [] ∧ s.dlc.pointerGate = .pass ∧ s.dlc.heldButtons ≠ 0
      ∧ ¬ (State.reset.dlc.heldModifier ≠ 0 ∨ State.reset.dlc.heldCodes ≠ []) ∧ ¬ State.reset.dlc.heldButtons ≠ 0 := by
  decide +kernel

/-- An item at the head, with three and with four items queued, and with no dock. -/
theorem witness_ItemsHanded :
    let hlm : Hlm := { State.reset.hlm with queue := [item 1 [9], request 2 [0x01]] }
    let waiting : Hlm := { hlm with head := .waitingForDockRoom }
    let s (n : Nat) (h : Hlm) : State :=
      (dlcWith fun d => { d with state := .attached, queue := List.replicate n ⟨[], 0⟩ }).setHlm h
    ((item 1 [9]).kind = .dockItem ∧ hlm.queue = item 1 [9] :: [request 2 [0x01]])
      ∧ ((s 4 waiting).hlm.head = .waitingForDockRoom ∧ (s 4 waiting).dlc.state.live = true
        ∧ 4 ≤ (s 4 waiting).dlc.queue.length)
      ∧ ((s 3 hlm).hlm.head = .idle ∧ (s 3 hlm).dlc.state.live = true ∧ (s 3 hlm).dlc.queue.length < 4)
      ∧ State.reset.dlc.state.live = false := by decide +kernel

/-- A riding item at its last offer, and held input. -/
theorem witness_DockRequests :
    let s := (attached true).setDlc { (attached true).dlc with heldModifier := 2, heldCodes := [4], heldButtons := 1 }
    State.reset.dlc.state.live = false ∧ s.dlc.state.live = true
      ∧ s.exchanging Exchange.riding = true ∧ s.dlc.queue.head?.any (fun i => 7 ≤ i.offers) = true := by decide +kernel

theorem witness_HingeArithmetic :
    ((1 : Int) ≠ 0 ∨ (0 : Int) ≠ 0) ∧ (0 : Int) < 32767 ∧ (-32768 : Int) ≤ 32767
      ∧ (inSample (-32768) = true ∧ inSample 32767 = true)
      ∧ ({ haeReset with front := true } : Hae).front = true
      ∧ (({ haeReset with rear := true } : Hae).front = false ∧ ({ haeReset with rear := true } : Hae).rear = true)
      ∧ (haeReset.front = false ∧ haeReset.rear = false ∧ haeReset.tracked = none)
      ∧ ({ haeReset with tracked := some 5760 } : Hae).tracked = some 5760 := by decide +kernel

/-- Two filtered vectors, and an fz at each end of the base face's bands. -/
theorem witness_hingeValues :
    (levelHinge fun h => h).hae.lid = some ⟨⟨0, 0, 4096⟩, 0⟩ ∧ (levelHinge fun h => h).hae.base = some ⟨⟨0, 0, 4096⟩, 0⟩
      ∧ (2896 : Int) ≥ (2896 : Nat) ∧ ((-2896 : Int) < (2896 : Nat) ∧ (-2896 : Int) ≤ -((2896 : Nat) : Int))
      ∧ ((-2895 : Int) < (2896 : Nat) ∧ -((2896 : Nat) : Int) < -2895) := by decide +kernel

/-- A computation that ends in each of the six qualities. -/
theorem witness_HingeComputation :
    let lid (v : Vec3) (s : State) : Quality := (after (.computation ⟨.lid, v, 0⟩) s).hae.quality
    [lid ⟨0, 0, 4096⟩ (levelHinge fun h => h), lid ⟨0, 0, 4096⟩ State.reset,
     lid ⟨0, 0, 4096⟩ (levelHinge fun h => { h with port := .stalled }),
     lid ⟨4096, 0, 0⟩ (levelHinge fun h => { h with lid := none }),
     lid ⟨0, 0, 4096⟩ (levelHinge fun h => { h with front := true, rear := true }),
     lid ⟨0, 0, 8192⟩ (levelHinge fun h => h)]
      = [.good, .noBase, .stale, .axisVertical, .hallConflict, .moving] := by decide +kernel

/-- Timers that are due, over a vector still fresh and over one no longer fresh. -/
theorem witness_HingeReviews :
    (let s := later 24 (levelHinge fun h => { h with lidTimer := .running 24, baseTimer := .running 24 })
     s.hae.lid = some ⟨⟨0, 0, 4096⟩, 0⟩ ∧ s.hae.lidTimer.due s.partTime = true ∧ s.lidFresh = true
       ∧ s.hae.base = some ⟨⟨0, 0, 4096⟩, 0⟩ ∧ s.hae.baseTimer.due s.partTime = true ∧ s.baseFresh = true)
      ∧ (let s := later 31 (levelHinge fun h => { h with lidTimer := .running 31, baseTimer := .running 25 })
         s.hae.lidTimer.due s.partTime = true ∧ s.lidFresh = false ∧ s.hae.baseTimer.due s.partTime = true
           ∧ s.baseFresh = false) := by decide +kernel

/-- Hall events with a base: both halls, and one alone under STALE and under GOOD with a raw hinge. -/
theorem witness_HallEvents :
    (let s := levelHinge fun h => { h with rear := true }
     s.noBase = false ∧ (s.hae.recordHall .front true).front = true ∧ (s.hae.recordHall .front true).rear = true
       ∧ s.hae.quality = .good)
      ∧ (let s := levelHinge fun h => { h with quality := .stale }
         s.noBase = false ∧ (s.hae.recordHall .rear true).front = false ∧ s.hae.quality = .stale)
      ∧ (let s := levelHinge fun h => { h with raw := some 2880 }
         s.noBase = false ∧ s.hae.raw = some 2880 ∧ (s.hae.recordHall .front true).rear = false)
      ∧ State.reset.noBase = true := by decide +kernel

/-- Vectors that fail the tilt, find nothing, and find a new, a waiting and an at once accepted candidate. -/
theorem witness_RotationDecided :
    (State.reset.rot.lock = false ∧ State.reset.rot.policy = .free)
      ∧ ¬ ((2048 : Int) ^ 2 ≤ 0 ^ 2 + 2047 ^ 2) ∧ ((2048 : Int) ^ 2 ≤ 0 ^ 2 + 2048 ^ 2)
      ∧ selectCandidate .rot0 (direction 2896 2896) 240 = none
      ∧ selectCandidate .rot0 (direction 2048 3547) 240 = some .rot90
      ∧ (rotWith fun r => { r with candidate := some .rot90 }).rot.candidate = some .rot90
      ∧ (rotWith fun r => { r with rotDwell := 0 }).rot.rotDwell = 0
      ∧ (Rot.rot90 ≠ .rot0 ∧ circDist 960 Rot.rot90.centre + 240 ≤ 720)
      ∧ selectCandidate .rot270 720 0 = some .rot90 := by decide +kernel

theorem witness_RotationEvents :
    let s := rotWith fun r => { r with candidate := some .rot180, timer := due }
    s.rot.timer.due s.partTime = true ∧ s.rot.candidate = some .rot180 := by decide +kernel

/-- Inputs that match no row, the current row, another row of the current posture, and another posture with a candidate of
that posture, with none, and under a dwell of 0. -/
theorem witness_InputsEvaluated :
    let p : Pcl := { pclReset with hinge := some 1000, quality := .good, face := .up, dock := .attached }
    matchedRow { p with hinge := some 3300 } = none ∧ matchedRow p = some 3
      ∧ (p.rowAt 3).posture = .laptop ∧ (p.rowAt 3).dwell ≠ 0
      ∧ ({ p with posture := some .laptop, row := some 3 } : Pcl).posture = some (p.rowAt 3).posture
      ∧ ({ p with posture := some .laptop, row := some 7 } : Pcl).row ≠ some 3
      ∧ ({ p with candidate := some 3 } : Pcl).candidate = some 3
      ∧ p.posture ≠ some (p.rowAt 3).posture ∧ p.candidate = none
      ∧ (let q : Pcl := { p with active := [bareRow .tent 0 .pass .free .allow .idle] }
         matchedRow q = some 0 ∧ (q.rowAt 0).dwell = 0) := by decide +kernel

theorem witness_PostureAccepted :
    let s := pclWith fun p => { p with candidate := some 15, timer := due }
    s.pcl.timer.due s.partTime = true ∧ s.pcl.candidate = some 15 := by decide +kernel

theorem witness_PostureRequests :
    (∀ r ∈ (pclWith fun p => { p with pending := List.replicate 16 unusedPostureRow }).pcl.pending, r.inUse = false)
      ∧ (∃ r ∈ State.reset.pcl.pending, r.inUse = true)
      ∧ (∃ row, State.reset.pcl.pending[3]? = some row ∧ row.inUse = true
        ∧ (pclWith fun p => { p with posture := some .laptop }).pcl.posture = some row.posture) := by
  refine ⟨by decide +kernel, by decide +kernel, _, rfl, rfl, rfl⟩

/-- An evaluation with no matched row, with one of the current posture and with one of another. -/
theorem witness_RowsMatched :
    let p : Pcl := { pclReset with hinge := some 1000, face := .up, dock := .attached }
    matchedRow { p with hinge := some 3300 } = none ∧ matchedRow p = some 3
      ∧ ({ p with posture := some .laptop } : Pcl).posture = some (p.rowAt 3).posture
      ∧ p.posture ≠ some (p.rowAt 3).posture ∧ p.active[15]? = some (p.rowAt 15) := by decide +kernel

/-- An armed line that fires; the ends of the line index and of the level. -/
theorem witness_LinesDriven :
    (let l : ActionLine := { actionLineReset true with mode := .triggered, armed := true, trigger := .platformAsleep }
     l.mode = .triggered ∧ l.armed = true ∧ l.trigger = .platformAsleep)
      ∧ (2 : Byte) ≠ 0 ∧ (2 : Byte) ≠ 1 ∧ (3 : Byte).toNat < 4 ∧ 4 ≤ (4 : Byte).toNat := by decide +kernel

theorem witness_SupplyRecomputed :
    (Instr.drawDelivery 1000 = .drawDelivery 1000 ∧ State.reset.ssu.allowance = .allow)
      ∧ (Instr.allowanceDelivery .deny = .allowanceDelivery .deny ∧ State.reset.ssu.draw = 0) := by decide +kernel

theorem witness_PenComesAndGoes :
    State.reset.pch.state = .empty ∧ (pchWith fun p => { p with budgetPause := true }).pch.budgetPause = true
      ∧ ¬ (State.reset.pch.allowance = .deny ∨ State.reset.pch.budgetPause = true)
      ∧ (pchWith fun p => { p with state := .done }).pch.state ≠ .empty := by decide +kernel

/-- The third overcurrent in a row, the second, and a pause reason, in PROBE and CHARGING. -/
theorem witness_IntervalEnds :
    let streak (p : Pch) (i : Nat) : Nat := if p.ocLimit < i then p.ocStreak + 1 else 0
    3 ≤ streak { pchReset with ocStreak := 2 } 1101 ∧ streak { pchReset with ocStreak := 2 } 1100 < 3
      ∧ streak { pchReset with ocStreak := 1 } 2047 < 3
      ∧ (pchWith fun p => { p with state := .charging 5, allowance := .deny }).pch.allowance = .deny
      ∧ (pchWith fun p => { p with state := .probe, budgetPause := true }).pch.budgetPause = true
      ∧ (pchWith fun p => { p with state := .charging 5 }).pch.state = .charging 5
      ∧ State.reset.pch.state ≠ .probe ∧ (∀ k < 6, State.reset.pch.state ≠ .charging k) := by decide +kernel

/-- A stage that goes on, one that exits, and the ends of the time limit with each action; the four cases of a probe. -/
theorem witness_ChargeRegulated :
    let s (k elapsed exits : Nat) := (pchWith fun p => { p with
      state := .charging k, elapsed := elapsed, exitStreak := exits, applied := 900, dutyCeiling := 1000 }).pch
    ((s 1 0 4).state = .charging 1 ∧ (s 1 0 4).allowance ≠ .deny ∧ (s 1 0 4).budgetPause = false
        ∧ ¬ ((s 1 0 4).ocLimit < 149 ∧ 2 ≤ (s 1 0 4).ocStreak))
      ∧ (149 < 150 ∧ (s 1 0 4).applied = ssuReset.dutyMax ∧ ssuReset.dutyMax ≤ (s 1 0 4).dutyCeiling
        ∧ 5 ≤ (s 1 0 4).exitStreak + 1)
      ∧ ((s 0 119990 0).elapsed + (s 0 119990 0).interval = ((s 0 119990 0).rowAt 0).limit * 1000
        ∧ ((s 0 119990 0).rowAt 0).action = .next)
      ∧ ((s 1 5399990 0).elapsed + 10 = ((s 1 5399990 0).rowAt 1).limit * 1000
        ∧ ((s 1 5399990 0).rowAt 1).action = .fault)
      ∧ ((s 0 119980 0).elapsed + 10 < ((s 0 119980 0).rowAt 0).limit * 1000)
      ∧ (let p := (pchWith fun p => { p with state := .probe, probePassed := true, probeCount := 2 }).pch
         p.state = .probe ∧ p.probePassed = true ∧ 2 ≤ p.probeCount ∧ p.probeMin ≤ 20 ∧ 19 < p.probeMin)
      ∧ State.reset.pch.probePassed = false ∧ State.reset.pch.active[5]? = some (State.reset.pch.rowAt 5) := by
  decide +kernel

theorem witness_ChargerRestarts :
    (∀ d b, State.reset.pch.state ≠ .paused .probe d b)
      ∧ (pchWith fun p => { p with state := .paused (.charging 2) true false }).pch.state = .paused (.charging 2) true false
      ∧ (pchWith fun p => { p with state := .paused .probe false true }).pch.state = .paused .probe false true
      ∧ (Allowance.reduced ≠ .deny)
      ∧ (let s := pchWith fun p => { p with state := .done, rechargeTimer := due }
         s.pch.rechargeTimer.due s.partTime = true ∧ s.pch.state = .done)
      ∧ (pchWith fun p => { p with state := .fault .overcurrent none }).pch.state = .fault .overcurrent none
      ∧ (pchWith fun p => { p with state := .charging 3 }).pch.state = .charging 3 := by decide +kernel

/-- A served wake that is raised, one that is raised already, and standing advice. -/
theorem witness_OccurrencesTaken :
    (let s := swaWith fun a => { a with platform := .asleep }
     s.swa.platform = .asleep ∧ masked s.swa.wakeMask .key = true ∧ s.swa.wakeRaised = false)
      ∧ masked State.reset.swa.wakeMask .motion = false
      ∧ (let s := swaWith fun a => { a with advice := some .idle }
         s.swa.platform = .awake ∧ s.swa.advice = some .idle) := by decide +kernel

theorem witness_ClassNoticed :
    (SleepClass.idle ≠ .closed ∧ State.reset.swa.closedHold ≠ 0 ∧ State.reset.swa.platform = .awake)
      ∧ (swaWith fun a => { a with closedHold := 0 }).swa.closedHold = 0
      ∧ (let s := swaWith fun a => { a with platform := .asleep, cls := .closed }
         s.swa.platform = .asleep ∧ masked s.swa.wakeMask .lidOpened = true ∧ s.swa.cls = .closed)
      ∧ (let s := swaWith fun a => { a with cls := .closed, advice := some .lidClosed, idleTimer := .cancelled }
         s.swa.cls = .closed ∧ SleepClass.idle ≠ .closed ∧ s.swa.advice = some .lidClosed
           ∧ s.swa.idleTimer = .cancelled ∧ s.swa.idleTimeout ≠ 0)
      ∧ (let s := swaWith fun a => { a with idleTimer := .cancelled, idleTimeout := 0 }
         s.swa.idleTimer = .cancelled ∧ s.swa.idleTimeout = 0)
      ∧ State.reset.swa.idleTimer = .running 120000 := by decide +kernel

/-- Timers that are due with and without the conditions of the advice, and the ends of the wake guard. -/
theorem witness_SleepAdvised :
    (let s := later 120000 (swaWith fun a => { a with cls := .idle, holdTimer := .running 1000 })
     s.swa.idleTimer.due s.partTime = true ∧ s.swa.holdTimer.due s.partTime = true ∧ s.swa.platform = .awake
       ∧ s.swa.cls ≠ .none ∧ s.swa.advice = none)
      ∧ State.reset.swa.cls = .none
      ∧ (swaWith fun a => { a with advice := some .lidClosed }).swa.advice = some .lidClosed
      ∧ ((2005 - 5 : PartTime).toNat ≤ State.reset.swa.wakeGuard ∧ ¬ (2006 - 5 : PartTime).toNat ≤ State.reset.swa.wakeGuard)
      ∧ guardApplies { swaWith fun a => { a with lastWake := some 5 } with partTime := 2005 } = true := by
  decide +kernel

/-- A transmitter held with room to the last frame, a busy one and an idle one, with columns of each action in force. -/
theorem witness_OffersRouted :
    let s := ufeWith fun u => { u with hold := true, queue := frames 8 .high ++ frames 39 .low }
    let busy := ufeWith fun u => { u with sending := some ⟨frame .key .high, 0⟩, finalLost := some 5 }
    (transmitterSettled s ∧ transmitterSettled busy ∧ transmitterSettled State.reset)
      ∧ (s.ufe.queue.length < 48 ∧ s.ufe.lowerCount < 40 ∧ s.ufe.fwd.length = 12)
      ∧ (State.reset.ufe.active[11]?).isSome = true
      ∧ (Record.fault .lidPortStalled 0).bypasses = true ∧ (Record.lineEvent .frontHall true 0).bypasses = false
      ∧ [s, busy, State.reset].all (fun s =>
        decide ((s.ufe.columnOf .lineEvent).action = .pass ∧ (s.ufe.columnOf .lidSample).action = .decimate 10
          ∧ (s.ufe.columnOf .hinge).action = .changeOnly 16 50
          ∧ ({ s.ufe with column := .asleep } : Ufe).columnOf .lidSample = col .drop .low
          ∧ (let u := { s.ufe with active := [{ awake := col (.batch 2 5) .high, asleep := col .drop .low }] }
             (Ufe.columnOf u .lidSample).action = .batch 2 5))) = true
      ∧ (State.reset.ufe.sending = none ∧ State.reset.ufe.hold = false ∧ State.reset.ufe.queue = []) := by
  simp only [transmitterSettled]
  decide +kernel

/-- Each class at the ends of both bounds; a queue of 48 with a final RESPONSE, and one of 48 LOW and HIGH frames, for an offer. -/
theorem witness_FramesAdmitted :
    let u (q : List Frame) : Ufe := { State.reset.ufe with hold := true, queue := q }
    ((u []).hold = true ∧ ({ u [] with sending := some ⟨frame .key .high, 0⟩ } : Ufe).sending ≠ none
        ∧ ({ u [] with finalLost := some 5 } : Ufe).finalLost ≠ none)
      ∧ (State.reset.ufe.sending = none ∧ State.reset.ufe.hold = false ∧ State.reset.ufe.finalLost = none
        ∧ State.reset.ufe.queue = [])
      ∧ ((u (frames 47 .high)).queue.length < 48 ∧ (u (frames 47 .high)).lowerCount < 40)
      ∧ (frames 8 .high ++ frames 40 .low = frames 8 .high ++ frame .key .low :: frames 39 .low
        ∧ 48 ≤ (frames 8 .high ++ frames 40 .low).length ∧ ∀ x ∈ frames 8 .high, x.cls ≠ .low)
      ∧ (¬ ((u (frames 40 .low)).queue.length < 48 ∧ (u (frames 40 .low)).lowerCount < 40))
      ∧ (frames 47 .high ++ frames 1 .normal = frames 47 .high ++ frame .key .normal :: []
        ∧ (∀ x ∈ frames 47 .high ++ frames 1 .normal, x.cls ≠ .low) ∧ ∀ x ∈ frames 47 .high, x.cls ≠ .normal)
      ∧ (48 ≤ (frames 48 .high).length ∧ ∀ x ∈ frames 48 .high, x.cls = .high)
      ∧ (∀ x ∈ frames 40 .normal, x.cls ≠ .low) := by decide +kernel

theorem witness_FramesAdmitted_offers :
    let full := ufeWith fun u => { u with
      hold := true, queue := { frame .response .high with final := true } :: frames 7 .high ++ frames 40 .low }
    let busy := ufeWith fun u => { u with
      sending := some ⟨frame .key .high, 0⟩, finalLost := some 5, queue := frames 48 .high }
    (lossWaits full ∧ lossWaits busy)
      ∧ ¬ ((Record.response 5 1 .ok 0xFF [] true).final = true ∧ 48 ≤ full.ufe.queue.length
        ∧ ∀ x ∈ full.ufe.queue, x.cls = .high)
      ∧ ((Record.response 5 1 .ok 0xFF [] true).bypasses = true ∧ (Record.hinge none .good none 0).bypasses = false
        ∧ (Record.hinge none .good none 0).final = false)
      ∧ (full.ufe.columnOf .hinge).action = .changeOnly 16 50 ∧ full.ufe.fwd.length = 12 := by
  simp only [lossWaits, finalsHigh]
  decide +kernel

/-- A frame that completes, HOLD released with a NORMAL and a LOW frame queued, and a frame behind which a loss waits. -/
theorem witness_FramesSent :
    (let s := ufeWith fun u => { u with
       sending := some ⟨frame .key .high, 0⟩, queue := [frame .key .low, frame .hinge .normal] }
     s.ufe.finalLost = none ∧ s.ufe.gaps.length = 15 ∧ s.ufe.sending = some ⟨frame .key .high, 0⟩
       ∧ (frame .key .high).final = false
       ∧ s.ufe.queue = [frame .key .low] ++ frame .hinge .normal :: []
       ∧ (∀ x ∈ [frame .key .low], x.cls ≠ (frame .hinge .normal).cls)
       ∧ ∀ x ∈ s.ufe.queue, (frame .hinge .normal).cls.code ≤ x.cls.code)
      ∧ State.reset.ufe.sending = none
      ∧ (let s := ufeWith fun u => { u with sending := some ⟨frame .key .high, 0⟩, finalLost := some 5, hold := true }
         s.ufe.sending ≠ none ∧ s.ufe.finalLost ≠ none) := by decide +kernel

theorem witness_ResponsesLost :
    let s := ufeWith fun u => { u with hold := true, queue := frames 48 .high }
    s.ufe.finalLost = none ∧ 48 ≤ s.ufe.queue.length ∧ (∀ x ∈ s.ufe.queue, x.cls = .high)
      ∧ s.ufe.sending = none
      ∧ ({ s.ufe with sending := some ⟨frame .key .high, 0⟩ } : Ufe).sending ≠ none := by decide +kernel

/-- A flush timer that is due, with the transmitter held and idle; forwarding states without a batch under both columns, and
with one batch, for a held and an idle transmitter. -/
theorem witness_RoutesSwitched :
    let timed (hold : Bool) : State := ufeWith fun u => { u with
      hold := hold, fwd := u.fwd.set 0 { forwardingReset with acc := [.lidSample ⟨0, 0, 0⟩ 0], flush := due } }
    let one (hold : Bool) : State := ufeWith fun u => { u with
      hold := hold, fwd := u.fwd.set 0 { forwardingReset with acc := [.lidSample ⟨0, 0, 0⟩ 0] }
      pending := u.active.set 0 { awake := col .pass .high, asleep := col .drop .low } }
    (∀ hold : Bool, ((timed hold).ufe.fwdAt Stream.lidSample.id).flush.due (timed hold).partTime = true
        ∧ lossWaits (timed hold) ∧ transmitterSettled (timed hold)
        ∧ (timed hold).ufe.queue.length < 48 ∧ (timed hold).ufe.lowerCount < 40)
      ∧ (State.reset.ufe.finalLost = none ∧ State.reset.ufe.fwd.length = 12 ∧ ∀ w ∈ State.reset.ufe.fwd, w.acc = [])
      ∧ Platform.awake = State.reset.ufe.column ∧ Platform.asleep ≠ State.reset.ufe.column
      ∧ (∀ hold : Bool, transmitterSettled (one hold) ∧ (one hold).ufe.queue.length < 48 ∧ (one hold).ufe.lowerCount < 40
        ∧ (one hold).ufe.fwd.length = 12 ∧ Stream.lidSample ∈ routedStreams
        ∧ ((one hold).ufe.fwdAt Stream.lidSample.id).acc ≠ []
        ∧ (∀ other ∈ routedStreams, other ≠ .lidSample → ((one hold).ufe.fwdAt other.id).acc = [])
        ∧ entryAt (one hold).ufe.pending Stream.lidSample.id ≠ entryAt (one hold).ufe.active Stream.lidSample.id
        ∧ entryAt (one hold).ufe.active Stream.lidSample.id = entryAt State.reset.ufe.active Stream.lidSample.id) := by
  simp only [lossWaits, finalsHigh, transmitterSettled]
  decide +kernel

/-- Batches of two streams on a queue without room, and what a change of column leaves there: the first batch evicts a LOW frame,
the second is dropped. -/
theorem witness_RoutesSwitched_batches :
    let s := ufeWith fun u => { u with
      hold := true, queue := frame .hinge .low :: frames 39 .normal
      active := u.active.set 0 { awake := col (.batch 8 9) .normal, asleep := col .drop .low }
      fwd := (u.fwd.set 0 { forwardingReset with acc := [.lidSample ⟨0, 0, 0⟩ 0] }).set 1
        { forwardingReset with acc := [.baseSample ⟨0, 0, 0⟩ 0] } }
    (lossWaits s ∧ s.ufe.fwd.length = 12 ∧ Platform.asleep ≠ s.ufe.column)
      ∧ (let t := after (.columnChange .asleep) s
         t.ufe.queue.length = 40 ∧ t.ufe.gaps = [0, 1, 1, 0, 0, 0, 0, 0, 0, 0, 0, 0, 0, 0, 0]
           ∧ t.ufe.column = .asleep ∧ (t.ufe.fwdAt 1).acc = []) := by
  simp only [lossWaits, finalsHigh]
  decide +kernel

/-- An IDENTIFY and a dock item of 16 bytes, waiting byte by byte, each second one without its stop bit, for a receiver that
hunts; a byte of a frame in transmission. -/
theorem witness_FrameReceived :
    let wire : List Byte := 0xC3 :: [0x40, 0x01, 0x05, 0x01] ++ [crc8 [0x40, 0x01, 0x05, 0x01]]
    let stops : List Bool := [true, false, true, false, true, false]
    let s : State := { State.reset with pending := List.zipWith (fun b stop => .byteReceived b stop) wire stops }
    s.hlm.rx = [] ∧ (request 5 [0x01]).payload.length ≤ (request 5 [0x01]).kind.maxLength
      ∧ stops.length = wire.length ∧ s.pending = List.zipWith (fun b stop => .byteReceived b stop) wire stops
      ∧ (⟨frame .hinge .high, 0⟩ : Sending).wire[0]? = some 0xC3
      ∧ (item 0 (List.replicate 16 0)).payload.length ≤ (item 0 (List.replicate 16 0)).kind.maxLength
      ∧ (match Host.Core.run Sys2Proof.core wire.length s with
         | .next t => t.hlm.queue == [request 5 [0x01]] && t.hlm.head == .executing && t.inflight == [.identify 5]
         | _ => false) = true := by decide +kernel

/-- A full telemetry batch is 5 + 8 × 6 = 53 bytes (11.7.6). -/
theorem test_full_telemetry_batch :
    (batchPayload (List.replicate 8 (.chargeTelemetry (.charging 1) (some .bulk) 300 450 725 0))).length = 53 := by
  decide +kernel

/-- Records that stand in one batch, at two part times. -/
theorem witness_batch :
    let rs : List Record := [.baseSample ⟨-1, 0, 32767⟩ 0xFFFF, .baseSample ⟨0, 0, 0⟩ 0x0100]
    rs.head? = some (.baseSample ⟨-1, 0, 32767⟩ 0xFFFF) ∧ rs.getLast? = some (.baseSample ⟨0, 0, 0⟩ 0x0100)
      ∧ ∀ r ∈ rs, r.stream ∈ [.lidSample, .baseSample, .chargeTelemetry]
          ∧ r.payload = r.valueBytes ++ le16 (if r = .baseSample ⟨0, 0, 0⟩ 0x0100 then 0x0100 else 0xFFFF) := by
  decide +kernel

/-- A receiver within a frame at each of its faults, queues of 8, of 7 and of none, and an empty one while a reset waits. -/
theorem witness_FramesJoin :
    (State.reset.hlm.rx = [] ∧ (0x00 : Byte) ≠ 0xC3)
      ∧ (hlmWith fun h => { h with rx := [⟨0xC3, 0⟩] }).hlm.rx = [⟨0xC3, 0⟩]
      ∧ ((0x42 : Byte) ≠ 0x40 ∧ (0x42 : Byte) ≠ 0x41 ∧ (0x42 : Byte) ≠ 0xC3)
      ∧ (60 < (61 : Byte).toNat ∧ (61 : Byte) ≠ 0xC3) ∧ (16 < (17 : Byte).toNat ∧ (17 : Byte) ≠ 0xC3)
      ∧ ((5 : Byte) ≠ 0xC3 ∧ (0 : Byte) ≠ crc8 [0x40, 0, 5])
      ∧ (let s := later 3 (hlmWith fun h => { h with rx := [⟨0xC3, 0⟩, ⟨0x40, 1⟩], gapTimer := .running 3 })
         s.hlm.gapTimer.due s.partTime = true ∧ s.hlm.rx = ⟨0xC3, 0⟩ :: [⟨0x40, 1⟩]
           ∧ ∀ r ∈ [(⟨0x40, 1⟩ : RxByte)], r.byte ≠ 0xC3)
      ∧ (8 ≤ (List.replicate 8 (item 0 [])).length ∧ (List.replicate 7 (item 0 [])).length < 8)
      ∧ (State.reset.hlm.queue = [] ∧ State.reset.hlm.head = .idle)
      ∧ (let s := hlmWith fun h => { h with head := .resetting }
         s.hlm.queue = [] ∧ s.hlm.head ≠ .idle) := by decide +kernel

/-- Bytes behind a SYNC at each length of a partial frame, at each fault and at a complete frame, with a SYNC for LEN, TAG and
CHECK and in what follows. -/
theorem witness_FramesJoin_hunting :
    let at0 (b : Byte) : RxByte := ⟨b, 0⟩
    ((at0 0xC3).byte = 0xC3 ∧ (at0 0x00).byte ≠ 0xC3)
      ∧ ((at0 0x40).byte = 0x40 ∧ (at0 0x41).byte = 0x41 ∧ ¬ ((at0 0xC3).byte = 0x40 ∨ (at0 0xC3).byte = 0x41))
      ∧ ((at0 60).byte.toNat ≤ 60 ∧ (at0 16).byte.toNat ≤ 16 ∧ 60 < (at0 0xC3).byte.toNat ∧ 16 < (at0 17).byte.toNat)
      ∧ ([at0 9, at0 9].length ≤ (at0 2).byte.toNat ∧ [at0 9].length = (at0 1).byte.toNat)
      ∧ ((at0 0xC3).byte ≠ crc8 [0x41, 1, 0xC3, 9] ∧ (at0 (crc8 [0x41, 1, 0xC3, 9])).byte = crc8 [0x41, 1, 0xC3, 9])
      ∧ (let s := receive ([0xC3, 0x41, 1, 0xC3, 9, 0xC3, 0x40].map at0) State.reset
         (s.hlm.checkErrors, s.hlm.kindErrors, s.hlm.rx.map RxByte.byte) = (1, 1, [0xC3, 0x40])) := by decide +kernel

/-- A mount record that passes its checks, one with a structural fault, a wrong length and a count of 0. -/
theorem witness_RowsWritten :
    (match checkRows readMount 10 1 0 1 (mountDefault 0x11).bytes with
      | .rows rs => decide (rs = [mountDefault 0x11])
      | _ => false) = true
      ∧ ((mountDefault 0x00).bytes.length = 1 * 10 ∧ readMount 0 (mountDefault 0x00).bytes = none)
      ∧ ([] : List Byte).length ≠ (1 : Byte).toNat * 10 ∧ ([] : List Byte).length = (0 : Byte).toNat * 10
      ∧ (5 * 10 ≤ 56 ∧ ¬ 6 * 10 ≤ 56) ∧ (12 + 4 ≤ 16 ∧ ¬ 13 + 4 ≤ 16) := by decide +kernel

/-- A payload that is laid out as a request, and one that is none. -/
theorem witness_RequestsDecoded :
    requestBytes (.setParam 9 0x18 0xFFFFFFFE) = some (9, [0x03, 0x18, 0xFE, 0xFF, 0xFF, 0xFF])
      ∧ ∀ c, requestBytes c ≠ some (9, []) :=
  ⟨by decide +kernel, fun c => by cases c <;> simp [requestBytes]⟩

/-- Rows at the ends of their ranges. -/
theorem witness_RowsReadBack :
    (isPermutation Axis.z Axis.x Axis.y = true ∧ (0x01 : Byte) ≠ 0x00 ∧ (0xFE : Byte) ≠ 0xFF
        ∧ ∀ o ∈ [(-2048 : Int), 2047, 0], -2048 ≤ o ∧ o ≤ 2047)
      ∧ (let r : PostureRow := { unusedPostureRow with hinge := some (5760, 5760), dwell := 5000, face := some .edge }
         (∀ h ∈ r.hinge, h.1 ≤ h.2 ∧ h.2 ≤ 5760) ∧ r.dwell ≤ 5000 ∧ r.face ≠ some .unknown)
      ∧ (actionAllowed 4 .drop = true ∧ actionAllowed 5 (.decimate 64) = true
        ∧ actionAllowed 7 (.changeOnly 4095 255) = true ∧ actionAllowed 10 (.batch 8 1000) = true)
      ∧ (let r : ProfileRow := ⟨true, .bulk, 1500, 65535, .next, some 1000⟩
         10 ≤ r.target ∧ r.target ≤ 1500 ∧ 1 ≤ r.limit ∧ r.limit ≤ 65535 ∧ (∀ e ∈ r.exitBelow, 5 ≤ e ∧ e ≤ 1000)
           ∧ r.inUse = true) := by decide +kernel

/-- Row counts and kinds that read past each check, and an index that is not 0. -/
theorem witness_RowFaults :
    (readMount 0 [1, 2, 4, 0x00, 0xF8, 0xFF, 0x07, 0, 0, 0xFE]).isSome = true
      ∧ (readMount 0 [1, 2, 4, 0xFF, 0xF7, 0, 0, 0, 0, 0xFE]).isSome = false
      ∧ (readRouteEntry 10 [4, 2, 1, 8, 0, 1, 0xE8, 3, 3, 0, 1, 0xFF, 15, 1, 255, 0]).isSome = true
      ∧ (readRouteEntry 10 [2, 0, 1, 64, 0, 1, 0, 0, 0, 0, 0, 0, 0, 0, 0, 0]).isSome = false
      ∧ (readProfileRow 1 [0, 3, 0xDC, 5, 0xFF, 0xFF, 1, 0, 9, 9]).isSome = true
      ∧ (readActionLine 0 [1, 1, 1, 1, 7, 0, 9, 1, 0xFF]).isSome = true
      ∧ ((1 : Nat) ≠ 10 ∧ ([1] : List Byte).length ≠ 23) := by decide +kernel

theorem witness_ParametersSet :
    2 ≤ State.reset.hlm.busyOn ∧ paramOf 0x00 = none ∧ paramOf 0xB0 = some .busyOn ∧ paramOf 0x90 = some .idleTimeout
      ∧ (State.reset.hlm.queue.length < State.reset.hlm.busyOn ∧ State.reset.hlm.queue.length ≤ State.reset.hlm.busyOff)
      ∧ (dlcWith fun d => { d with state := .attaching }).dlc.state = .attaching
      ∧ paramOf 0x24 = some .dockDefaultDraw ∧ (dlcWith fun d => { d with state := .mute }).dlc.statusSeen = false
      ∧ (paramOf 0x70 = some .railLimit ∧ Param.railLimit ∈ [Param.railLimit, .railReserve, .coilFull, .dutyMax, .coilMin])
      ∧ ¬ Param.wakeMask ∈ [Param.railLimit, .railReserve, .coilFull, .dutyMax, .coilMin] := by decide +kernel

theorem witness_ReadRequests :
    (statusSection State.reset 11).isSome = true ∧ (statusSection State.reset 12).isNone = true
      ∧ 6 ≤ (6 : Byte).toNat
      ∧ ((1 : Byte).toNat ≠ 0 ∧ (11 : Byte).toNat + (1 : Byte).toNat ≤ 12 ∧ (1 : Byte).toNat * 16 ≤ 56
        ∧ ((1 : Byte) = 0 ∨ (1 : Byte) = 1 ∧ true = true))
      ∧ (¬ (12 : Byte).toNat + (1 : Byte).toNat ≤ 12 ∧ ¬ ((1 : Byte) = 0 ∨ (1 : Byte) = 1 ∧ false = true))
      ∧ State.reset.ufe.gaps.length = 15 ∧ State.reset.ufe.fwd.length = 12 := by decide +kernel

end Sys2Proof.Tests
end

-- PROOFS: the lid mount map (chapter 1, R8 and R14).
section

namespace Sys2Proof.Machine

/-! ### The two saturating steps of R14 -/

/-- Saturation by its three cases, as R14 step 2 states them. -/
theorem sat16_eq_ite (v : Int) :
    sat16 v = if 32767 < v then 32767 else if v < -32768 then -32768 else v := by
  unfold sat16
  split_ifs <;> omega

/-- The negation of a sample value saturates at −32768 only (R14 step 1). -/
theorem sat16_neg_of_inSample {a : Int} (h : inSample a = true) :
    sat16 (-a) = if a = -32768 then 32767 else -a := by
  simp only [inSample, Bool.and_eq_true, decide_eq_true_eq] at h
  rw [sat16_eq_ite]
  split_ifs <;> omega

/-- Saturation gives a sample value, as the check `inSample` reads it. -/
@[simp] theorem inSample_sat16 (v : Int) : inSample (sat16 v) = true := by
  obtain ⟨lower, upper⟩ := sat16_inSample v
  simp [inSample, lower, upper]

/-- A fetched 16-bit word is a sample value (0.5). -/
@[simp] theorem inSample_toInt (w : BitVec 16) : inSample w.toInt = true := by
  have lower := BitVec.le_toInt w
  have upper := BitVec.toInt_lt (x := w)
  simp only [inSample, Bool.and_eq_true, decide_eq_true_eq]
  omega

/-- Mapping through any mount record gives sample values, whatever the source vector (R14). -/
theorem Mount.map_wf (m : Mount) (v : Vec3) : (m.map v).wf = true := by
  simp [Vec3.wf, Mount.map]

/-! ### The source of one output axis -/

/-- The component of a vector that a source's axis names. -/
def Vec3.along (v : Vec3) : Axis → Int
  | .x => v.x
  | .y => v.y
  | .z => v.z

/-- A component of a vector of sample values is a sample value. -/
theorem Vec3.inSample_along {v : Vec3} (h : v.wf = true) (a : Axis) : inSample (v.along a) = true := by
  simp only [Vec3.wf, Bool.and_eq_true] at h
  obtain ⟨⟨hx, hy⟩, hz⟩ := h
  cases a with
  | x => exact hx
  | y => exact hy
  | z => exact hz

/-- The value of a source is its component, saturated when the sign is −. -/
theorem Source.value_eq_along (c : Source) (v : Vec3) :
    c.value v = if c.negate then sat16 (-v.along c.axis) else v.along c.axis := by
  obtain ⟨axis, negate⟩ := c
  cases axis <;> rfl

/-- R14 step 1 on a vector of sample values. -/
theorem Source.value_of_wf (c : Source) {v : Vec3} (h : v.wf = true) :
    c.value v =
      if c.negate then (if v.along c.axis = -32768 then 32767 else -v.along c.axis) else v.along c.axis := by
  rw [c.value_eq_along, sat16_neg_of_inSample (Vec3.inSample_along h c.axis)]

/-! ### A GOOD completion (R7, R8) -/

/-- A read in progress that returns the expected identity and new data is GOOD. -/
theorem exec_readCompletion_good (x y z : BitVec 16) (s : State) (h : s.lsp.reading = true) :
    exec (.readCompletion s.lsp.mount.identity true x y z) s
      = .next (readGood ⟨x.toInt, y.toInt, z.toInt⟩ s) := by
  have arm : exec (.readCompletion s.lsp.mount.identity true x y z) s
      = execReadCompletion s.lsp.mount.identity true x y z s := rfl
  simp [arm, execReadCompletion, h, readOutcome]

/-- A GOOD completion records the mapped sample at the part time of the completion. -/
@[simp] theorem readGood_last (raw : Vec3) (s : State) :
    (readGood raw s).lsp.last = some ⟨.lid, s.lsp.mount.map raw, s.partTime⟩ := rfl

/-- Settles O15: a GOOD completion records `Mount.map` of the fetched words, each axis of which is the saturated
difference of R14 step 2 on the source value of R14 step 1. -/
theorem mountMapping : Obligations.MountMapping := by
  refine ⟨fun x y z s reading => ?_, Mount.map_wf⟩
  intro m fetched source mapped
  refine ⟨_, exec_readCompletion_good x y z s reading, ?_⟩
  let raw : Vec3 := ⟨x.toInt, y.toInt, z.toInt⟩
  have raw_wf : raw.wf = true := by simp [raw, Vec3.wf]
  have along_eq (a : Axis) : raw.along a = fetched a := by cases a <;> rfl
  have value_eq (c : Source) : c.value raw = source c := by
    rw [c.value_of_wf raw_wf, along_eq]
  have axis_eq (c : Source) (offset : Int) : sat16 (c.value raw - offset) = mapped c offset := by
    rw [sat16_eq_ite, value_eq]
  have map_eq : m.map raw = ⟨mapped m.srcX m.offset.x, mapped m.srcY m.offset.y, mapped m.srcZ m.offset.z⟩ := by
    simp only [Mount.map, axis_eq]
  rw [readGood_last, ← map_eq]

end Sys2Proof.Machine
end

-- PROOFS: the decision of the hinge quality (chapter 3, R49).
section

namespace Sys2Proof.Machine

/-! ### The tests of R49 -/

/-- Test 1 of R49: the dock is ABSENT or UNPOWERED, or the base vector is cleared. -/
theorem State.noBase_iff (s : State) :
    s.noBase = true ↔ s.hae.dock = .absent ∨ s.hae.dock = .unpowered ∨ s.hae.base = none := by
  simp [State.noBase, or_assoc]

/-- Test 2 of R49: a vector that is not fresh, or a lid port that is STALLED. -/
theorem State.isStale_iff (s : State) :
    s.isStale = true ↔ s.lidFresh = false ∨ s.baseFresh = false ∨ s.hae.port = .stalled := by
  simp [State.isStale, or_assoc]

/-- Settles O28: with each test of `decideQuality` read as its condition in R49, the first condition that holds fixes the
quality and rules out the others. -/
theorem qualityDecided : Obligations.QualityDecided := by
  intro s noBase stale flat conflict moving
  have noBase_iff : s.noBase = true ↔ noBase := s.noBase_iff
  have stale_iff : s.isStale = true ↔ stale := s.isStale_iff
  have flat_iff : (!(projects s.hae.projectionMin s.hae.lid && projects s.hae.projectionMin s.hae.base)) = true ↔ flat := by
    rw [Bool.not_eq_true', Bool.and_eq_false_iff]
  have conflict_iff : (s.hae.front && s.hae.rear) = true ↔ conflict := Bool.and_eq_true_iff
  have moving_iff : (s.hae.lidMoving || s.hae.baseMoving) = true ↔ moving := Bool.or_eq_true_iff
  simp only [decideQuality, noBase_iff, stale_iff, flat_iff, conflict_iff, moving_iff]
  by_cases test1 : noBase
  · simp [test1]
  by_cases test2 : stale
  · simp [test1, test2]
  by_cases test3 : flat
  · simp [test1, test2, test3]
  by_cases test4 : conflict
  · simp [test1, test2, test3, test4]
  by_cases test5 : moving
  · simp [test1, test2, test3, test4, test5]
  · simp [test1, test2, test3, test4, test5]

end Sys2Proof.Machine
end

-- PROOFS: the matching of posture rows and the cases of an evaluation (chapter 5, R80 and R83).
section

namespace Sys2Proof.Machine

/-! ### The conditions of a row (R80) -/

/-- An absent condition asks nothing, and a present one its test. -/
theorem met_iff {α : Type} (condition : Option α) (test : α → Bool) :
    met condition test = true ↔ ∀ c, condition = some c → test c = true := by
  cases condition with
  | none => simp [met]
  | some c => simp [met]

theorem hingeWithin_iff (lo hi : Nat) (hinge : Option Nat) :
    hingeWithin (lo, hi) hinge = true ↔ ∃ h, hinge = some h ∧ lo ≤ h ∧ h ≤ hi := by
  cases hinge with
  | none => simp [hingeWithin]
  | some h => simp [hingeWithin]

theorem met_hinge_iff (range : Option (Nat × Nat)) (hinge : Option Nat) :
    met range (fun pair => hingeWithin pair hinge) = true ↔
      ∀ lo hi, range = some (lo, hi) → ∃ h, hinge = some h ∧ lo ≤ h ∧ h ≤ hi := by
  simp only [met_iff, Prod.forall, hingeWithin_iff]

theorem met_dock_iff (condition : Option DockCondition) (d : DockState) :
    met condition (fun c => c.holds d) = true ↔
      (condition = some .attached → d = .attached) ∧ (condition = some .notAttached → d ≠ .attached) := by
  rw [met_iff]
  constructor
  · intro h
    exact ⟨fun hc => by simpa [DockCondition.holds] using h _ hc,
      fun hc => by simpa [DockCondition.holds] using h _ hc⟩
  · rintro ⟨attached, notAttached⟩ c hc
    cases c with
    | attached => simpa [DockCondition.holds] using attached hc
    | notAttached => simpa [DockCondition.holds] using notAttached hc

theorem met_eq_iff {α : Type} [DecidableEq α] (condition : Option α) (input : α) :
    met condition (fun c => c == input) = true ↔ ∀ c, condition = some c → input = c := by
  simp only [met_iff, beq_iff_eq, eq_comm (b := input)]

/-- The table of R80: each of the row's conditions, read by its own lemma. -/
theorem rowMatches_iff (p : Pcl) (r : PostureRow) : rowMatches p r = true ↔
    r.inUse = true
    ∧ (∀ lo hi, r.hinge = some (lo, hi) → ∃ h, p.hinge = some h ∧ lo ≤ h ∧ h ≤ hi)
    ∧ (r.needGood = true → p.quality = .good)
    ∧ (r.dock = some .attached → p.dock = .attached) ∧ (r.dock = some .notAttached → p.dock ≠ .attached)
    ∧ (∀ a, r.front = some a → p.front = a) ∧ (∀ a, r.rear = some a → p.rear = a)
    ∧ (∀ f, r.face = some f → p.face = f) := by
  have needGood_iff : (!r.needGood || p.quality == .good) = true ↔ (r.needGood = true → p.quality = .good) := by
    cases r.needGood with
    | false => simp
    | true => simp
  simp only [rowMatches, Bool.and_eq_true, met_hinge_iff, needGood_iff, met_dock_iff, met_eq_iff, and_assoc]

/-! ### The matched row (R83) -/

theorem Pcl.rowAt_of_getElem? {p : Pcl} {i : Nat} {r : PostureRow} (h : p.active[i]? = some r) : p.rowAt i = r := by
  rw [Pcl.rowAt, List.getD_eq_getElem?_getD, h, Option.getD_some]

theorem Pcl.rowAt_of_lt {p : Pcl} {i : Nat} (h : i < p.active.length) : p.rowAt i = p.active[i] :=
  Pcl.rowAt_of_getElem? (List.getElem?_eq_getElem h)

theorem matchedRow_eq_some_iff (p : Pcl) (i : Nat) : matchedRow p = some i ↔
    i < p.active.length ∧ rowMatches p (p.rowAt i) = true ∧ ∀ j < i, rowMatches p (p.rowAt j) = false := by
  rw [matchedRow, List.findIdx?_eq_some_iff_getElem]
  constructor
  · rintro ⟨inBank, hit, earlier⟩
    refine ⟨inBank, by rwa [Pcl.rowAt_of_lt inBank], fun j hj => ?_⟩
    rw [Pcl.rowAt_of_lt (hj.trans inBank)]
    exact Bool.eq_false_of_not_eq_true (earlier j hj)
  · rintro ⟨inBank, hit, earlier⟩
    refine ⟨inBank, by rwa [Pcl.rowAt_of_lt inBank] at hit, fun j hj => ?_⟩
    rw [← Pcl.rowAt_of_lt (hj.trans inBank), earlier j hj]
    exact Bool.false_ne_true

/-! ### The cases of an evaluation (R83 to R86) -/

/-- R84. -/
theorem evaluate_of_noMatch {s : State} (h : matchedRow s.pcl = none) :
    evaluate s = s.setPcl { s.pcl with candidate := none, timer := .cancelled, noMatch := true } := by
  simp only [evaluate, h, Pcl.cancel]

/-- With a matched row, NO_MATCH is cleared before R85 or R86 acts. -/
theorem evaluate_of_match {s : State} {i : Nat} (h : matchedRow s.pcl = some i) :
    evaluate s =
      if s.pcl.posture = some (s.pcl.rowAt i).posture then samePosture i (s.setPcl { s.pcl with noMatch := false })
      else candidateCase i (s.setPcl { s.pcl with noMatch := false }) := by
  rw [evaluate, h]
  rfl

theorem samePosture_keeps_noMatch (i : Nat) (s : State) : (samePosture i s).pcl.noMatch = s.pcl.noMatch := by
  simp only [samePosture]
  split
  case isTrue => rfl
  case isFalse => rw [publishRow_pcl]; rfl

theorem startPosture_keeps_noMatch (i : Nat) (s : State) : (startPosture i s).pcl.noMatch = s.pcl.noMatch := by
  simp only [startPosture]
  split
  case isTrue => rw [acceptPosture_pcl]
  case isFalse => rfl

theorem candidateCase_keeps_noMatch (i : Nat) (s : State) : (candidateCase i s).pcl.noMatch = s.pcl.noMatch := by
  cases hc : s.pcl.candidate with
  | none => simp only [candidateCase, hc, startPosture_keeps_noMatch]
  | some c =>
    simp only [candidateCase, hc]
    split
    case isTrue => rfl
    case isFalse => exact startPosture_keeps_noMatch i s

theorem evaluate_clears_noMatch {s : State} {i : Nat} (h : matchedRow s.pcl = some i) :
    (evaluate s).pcl.noMatch = false := by
  rw [evaluate_of_match h]
  split
  case isTrue => rw [samePosture_keeps_noMatch, State.setPcl_pcl]
  case isFalse => rw [candidateCase_keeps_noMatch, State.setPcl_pcl]

/-- Settles O34: R80's table condition by condition, the first match as `findIdx?` finds it, and the evaluation's case by
whether a row matches and whose posture it has. -/
theorem rowsMatched : Obligations.RowsMatched := by
  refine ⟨rowMatches_iff, matchedRow_eq_some_iff, ?_⟩
  intro s found
  refine ⟨fun _ _ => Pcl.rowAt_of_getElem?, evaluate_of_noMatch, fun i matched => ?_⟩
  refine ⟨evaluate_clears_noMatch matched, fun same => ?_, fun other => ?_⟩
  · rw [evaluate_of_match matched, if_pos same]
  · rw [evaluate_of_match matched, if_neg other]

end Sys2Proof.Machine
end

-- PROOFS: what an update keeps, and how operations compose (the frame layer).
section

namespace Sys2Proof.Machine

/-! ### Blocks that stay -/

/-- Whether a block reads the same in two states. -/
def Block.same (s t : State) : Block → Prop
  | .lif => t.lif = s.lif
  | .lsp => t.lsp = s.lsp
  | .dlc => t.dlc = s.dlc
  | .hae => t.hae = s.hae
  | .rot => t.rot = s.rot
  | .pcl => t.pcl = s.pcl
  | .alu => t.alu = s.alu
  | .ssu => t.ssu = s.ssu
  | .pch => t.pch = s.pch
  | .swa => t.swa = s.swa
  | .ufe => t.ufe = s.ufe
  | .hlm => t.hlm = s.hlm

/-- The blocks outside `touched` and the queue of commands are as before. Part time and the free values may have moved on,
which `kept` does not allow. -/
def stays (touched : List Block) (s t : State) : Prop :=
  (∀ b, b ∉ touched → b.same s t) ∧ t.pending = s.pending

theorem Block.same_trans {b : Block} {s t u : State} (h : b.same s t) (h' : b.same t u) : b.same s u := by
  cases b <;> exact Eq.trans h' h

theorem stays.trans {touched : List Block} {s t u : State} (h : stays touched s t) (h' : stays touched t u) :
    stays touched s u :=
  ⟨fun b hb => Block.same_trans (h.1 b hb) (h'.1 b hb), h'.2.trans h.2⟩

theorem stays.mono {touched touched' : List Block} {s t : State} (h : stays touched s t) (sub : touched ⊆ touched') :
    stays touched' s t :=
  ⟨fun b hb => h.1 b fun hin => hb (sub hin), h.2⟩

theorem forall_block_iff (p : Block → Prop) : (∀ b, p b) ↔
    p .lif ∧ p .lsp ∧ p .dlc ∧ p .hae ∧ p .rot ∧ p .pcl ∧ p .alu ∧ p .ssu ∧ p .pch ∧ p .swa ∧ p .ufe ∧ p .hlm := by
  refine ⟨fun h => by simp [h], ?_⟩
  rintro ⟨lif, lsp, dlc, hae, rot, pcl, alu, ssu, pch, swa, ufe, hlm⟩ b
  cases b <;> assumption

/-- What a statement says is kept, block by block. -/
theorem kept_iff_stays (touched : List Block) (s t : State) :
    kept touched s t ↔ stays touched s t ∧ t.partTime = s.partTime ∧ t.freeCount = s.freeCount := by
  simp only [kept, stays, forall_block_iff, Block.same]
  tauto

theorem kept.stays {touched : List Block} {s t : State} (h : kept touched s t) : stays touched s t :=
  ((kept_iff_stays touched s t).mp h).1

/-! ### `kept` composes -/

@[simp] theorem kept_refl (touched : List Block) (s : State) : kept touched s s := by
  simp [kept]

theorem kept.trans {touched : List Block} {s t u : State} (h : kept touched s t) (h' : kept touched t u) :
    kept touched s u := by
  rw [kept_iff_stays] at *
  obtain ⟨blocks, time, free⟩ := h
  obtain ⟨blocks', time', free'⟩ := h'
  exact ⟨blocks.trans blocks', time'.trans time, free'.trans free⟩

theorem kept.mono {touched touched' : List Block} {s t : State} (h : kept touched s t) (sub : touched ⊆ touched') :
    kept touched' s t := by
  rw [kept_iff_stays] at *
  exact ⟨h.1.mono sub, h.2⟩

/-- What both branches of a test keep is kept. -/
theorem kept_ite {touched : List Block} {s a b : State} {p : Prop} [Decidable p] (ha : kept touched s a)
    (hb : kept touched s b) : kept touched s (if p then a else b) := by
  split
  · exact ha
  · exact hb

/-! ### One block written, and deliveries issued -/

theorem kept_lif (s : State) (b : Lif) (q : List Instr) : kept [.lif] s { s with lif := b, inflight := q } := by
  simp [kept]
theorem kept_lsp (s : State) (b : Lsp) (q : List Instr) : kept [.lsp] s { s with lsp := b, inflight := q } := by
  simp [kept]
theorem kept_dlc (s : State) (b : Dlc) (q : List Instr) : kept [.dlc] s { s with dlc := b, inflight := q } := by
  simp [kept]
theorem kept_hae (s : State) (b : Hae) (q : List Instr) : kept [.hae] s { s with hae := b, inflight := q } := by
  simp [kept]
theorem kept_rot (s : State) (b : RotUnit) (q : List Instr) : kept [.rot] s { s with rot := b, inflight := q } := by
  simp [kept]
theorem kept_pcl (s : State) (b : Pcl) (q : List Instr) : kept [.pcl] s { s with pcl := b, inflight := q } := by
  simp [kept]
theorem kept_alu (s : State) (b : Alu) (q : List Instr) : kept [.alu] s { s with alu := b, inflight := q } := by
  simp [kept]
theorem kept_ssu (s : State) (b : Ssu) (q : List Instr) : kept [.ssu] s { s with ssu := b, inflight := q } := by
  simp [kept]
theorem kept_pch (s : State) (b : Pch) (q : List Instr) : kept [.pch] s { s with pch := b, inflight := q } := by
  simp [kept]
theorem kept_swa (s : State) (b : Swa) (q : List Instr) : kept [.swa] s { s with swa := b, inflight := q } := by
  simp [kept]
theorem kept_ufe (s : State) (b : Ufe) (q : List Instr) : kept [.ufe] s { s with ufe := b, inflight := q } := by
  simp [kept]
theorem kept_hlm (s : State) (b : Hlm) (q : List Instr) : kept [.hlm] s { s with hlm := b, inflight := q } := by
  simp [kept]

@[simp] theorem kept_setLif (s : State) (b : Lif) : kept [.lif] s (s.setLif b) := kept_lif s b s.inflight
@[simp] theorem kept_setLsp (s : State) (b : Lsp) : kept [.lsp] s (s.setLsp b) := kept_lsp s b s.inflight
@[simp] theorem kept_setDlc (s : State) (b : Dlc) : kept [.dlc] s (s.setDlc b) := kept_dlc s b s.inflight
@[simp] theorem kept_setHae (s : State) (b : Hae) : kept [.hae] s (s.setHae b) := kept_hae s b s.inflight
@[simp] theorem kept_setRot (s : State) (b : RotUnit) : kept [.rot] s (s.setRot b) := kept_rot s b s.inflight
@[simp] theorem kept_setPcl (s : State) (b : Pcl) : kept [.pcl] s (s.setPcl b) := kept_pcl s b s.inflight
@[simp] theorem kept_setAlu (s : State) (b : Alu) : kept [.alu] s (s.setAlu b) := kept_alu s b s.inflight
@[simp] theorem kept_setSsu (s : State) (b : Ssu) : kept [.ssu] s (s.setSsu b) := kept_ssu s b s.inflight
@[simp] theorem kept_setPch (s : State) (b : Pch) : kept [.pch] s (s.setPch b) := kept_pch s b s.inflight
@[simp] theorem kept_setSwa (s : State) (b : Swa) : kept [.swa] s (s.setSwa b) := kept_swa s b s.inflight
@[simp] theorem kept_setUfe (s : State) (b : Ufe) : kept [.ufe] s (s.setUfe b) := kept_ufe s b s.inflight
@[simp] theorem kept_setHlm (s : State) (b : Hlm) : kept [.hlm] s (s.setHlm b) := kept_hlm s b s.inflight

@[simp] theorem kept_took (touched : List Block) (s : State) (c : Instr) : kept touched s (s.took c) := by
  simp [kept]

@[simp] theorem kept_emits (touched : List Block) (s : State) (cs : List Instr) : kept touched s (s.emits cs) := by
  simp [kept]

@[simp] theorem kept_emit (touched : List Block) (s : State) (c : Instr) : kept touched s (s.emit c) := by
  simp [kept]

@[simp] theorem kept_offer (touched : List Block) (s : State) (r : Record) : kept touched s (s.offer r) := by
  simp [kept]

/-- Answering a request adds the host link to what its owner's rule has touched. -/
theorem kept.answer {touched : List Block} {s u : State} (h : kept touched s u) (hlm : .hlm ∈ touched) (c : Instr)
    (tag code : Byte) (status : Status) (row : Byte) (data : List Byte) :
    kept touched s (answer c tag code status row data u) :=
  h.trans ((answer_kept c tag code status row data u).mono (by simpa using hlm))

/-! ### What answering leaves -/

@[simp] theorem answerStatus_eq (c : Instr) (tag code : Byte) (status : Status) (s : State) :
    answerStatus c tag code status s = answer c tag code status 0xFF [] s := rfl

@[simp] theorem answerOk_eq (c : Instr) (tag code : Byte) (s : State) :
    answerOk c tag code s = answer c tag code .ok 0xFF [] s := rfl

section answering
variable (c : Instr) (tag code : Byte) (status : Status) (row : Byte) (data : List Byte) (u : State)

@[simp] theorem answer_lif : (answer c tag code status row data u).lif = u.lif :=
  (answer_kept c tag code status row data u).stays.1 .lif (by simp)
@[simp] theorem answer_lsp : (answer c tag code status row data u).lsp = u.lsp :=
  (answer_kept c tag code status row data u).stays.1 .lsp (by simp)
@[simp] theorem answer_dlc : (answer c tag code status row data u).dlc = u.dlc :=
  (answer_kept c tag code status row data u).stays.1 .dlc (by simp)
@[simp] theorem answer_hae : (answer c tag code status row data u).hae = u.hae :=
  (answer_kept c tag code status row data u).stays.1 .hae (by simp)
@[simp] theorem answer_rot : (answer c tag code status row data u).rot = u.rot :=
  (answer_kept c tag code status row data u).stays.1 .rot (by simp)
@[simp] theorem answer_pcl : (answer c tag code status row data u).pcl = u.pcl :=
  (answer_kept c tag code status row data u).stays.1 .pcl (by simp)
@[simp] theorem answer_alu : (answer c tag code status row data u).alu = u.alu :=
  (answer_kept c tag code status row data u).stays.1 .alu (by simp)
@[simp] theorem answer_ssu : (answer c tag code status row data u).ssu = u.ssu :=
  (answer_kept c tag code status row data u).stays.1 .ssu (by simp)
@[simp] theorem answer_pch : (answer c tag code status row data u).pch = u.pch :=
  (answer_kept c tag code status row data u).stays.1 .pch (by simp)
@[simp] theorem answer_swa : (answer c tag code status row data u).swa = u.swa :=
  (answer_kept c tag code status row data u).stays.1 .swa (by simp)
@[simp] theorem answer_ufe : (answer c tag code status row data u).ufe = u.ufe :=
  (answer_kept c tag code status row data u).stays.1 .ufe (by simp)

end answering

end Sys2Proof.Machine
end

-- PROOFS: what the rules of each block touch.
section

namespace Sys2Proof.Machine

/-! ### Lines, lid port, action lines and supply -/

theorem lineEventOf_kept (line : Line) (change : Option Bool) (s : State) :
    kept [] s (lineEventOf line change s) := by
  cases change with
  | none => exact kept_refl [] s
  | some asserted => cases line <;> exact kept_emits [] s _

theorem readFailed_kept (outcome : ReadOutcome) (s : State) : kept [.lsp] s (readFailed outcome s) := by
  unfold readFailed
  split <;> exact kept_lsp s _ _

theorem turnOff_kept (s : State) : kept [.lsp] s (turnOff s) := by
  unfold turnOff
  split
  · exact kept_refl _ s
  · exact kept_lsp s _ _

theorem writeMountLid_kept (rs : List Mount) (s : State) : kept [.lsp] s (writeMountLid rs s) := by
  cases rs with
  | nil => exact kept_refl _ s
  | cons m rs => exact kept_lsp s _ _

theorem putLine_kept (i : Nat) (l : ActionLine) (s : State) : kept [.alu] s (putLine i l s) := by
  rw [putLine_eq]
  exact kept_alu s _ _

theorem testLine_kept (t : Trigger) (s : State) (i : Nat) : kept [.alu] s (testLine t s i) := by
  unfold testLine
  split
  · exact putLine_kept i _ s
  · exact kept_refl _ s

theorem putLines_kept (i : Nat) (ls : List ActionLine) (s : State) : kept [.alu] s (putLines i ls s) := by
  induction ls generalizing i s with
  | nil => exact kept_refl _ s
  | cons l ls ih => exact (putLine_kept i l s).trans (ih (i + 1) (putLine i l s))

/-- An operation repeated over a list keeps what one application keeps. -/
theorem foldl_kept {α : Type} {touched : List Block} {f : State → α → State}
    (hf : ∀ s a, kept touched s (f s a)) (as : List α) (s : State) : kept touched s (as.foldl f s) := by
  induction as generalizing s with
  | nil => exact kept_refl _ s
  | cons a as ih => exact (hf s a).trans (ih (f s a))

theorem supplyEvent_kept (u : Ssu) (s : State) : kept [.ssu] s (supplyEvent u s) := by
  rw [supplyEvent_eq]
  exact kept_ssu s _ _

/-! ### Charger -/

theorem probeOrPause_kept (s : State) : kept [.pch] s (probeOrPause s) := by
  rw [probeOrPause_eq]
  exact kept_pch s _ _

theorem insertPen_kept (s : State) : kept [.pch] s (insertPen s) :=
  ((kept_pch s _ _).trans (probeOrPause_kept _)).trans (kept_emits _ _ _)

theorem removePen_kept (s : State) : kept [.pch] s (removePen s) :=
  kept_pch s _ _

theorem enterPaused_kept (target : PauseTarget) (s : State) : kept [.pch] s (enterPaused target s) := by
  cases target <;> exact kept_pch s _ _

theorem resume_kept (target : PauseTarget) (s : State) : kept [.pch] s (resume target s) := by
  unfold resume
  split
  · exact kept_pch s _ _
  · cases target <;> exact kept_pch s _ _

theorem probeEnd_kept (s : State) : kept [.pch] s (probeEnd s) := by
  unfold probeEnd
  dsimp only
  split
  · exact kept_pch s _ _
  · split
    · exact kept_pch s _ _
    · split <;> exact kept_pch s _ _

theorem completeStage_kept (k : Nat) (s : State) : kept [.pch] s (completeStage k s) := by
  unfold completeStage
  split <;> exact kept_pch s _ _

theorem enterFault_kept (kind : ChargerFault) (s : State) : kept [.pch] s (enterFault kind s) :=
  kept_pch s _ _

theorem regulate_kept (k : Nat) (s : State) : kept [.pch] s (regulate k s) := by
  unfold regulate
  dsimp only
  split
  · exact (kept_pch s _ _).trans (completeStage_kept k _)
  · split
    · split
      · exact (kept_pch s _ _).trans (completeStage_kept k _)
      · exact (kept_pch s _ _).trans (enterFault_kept _ _)
    · exact kept_pch s _ _

theorem chargingEnd_kept (target : PauseTarget) (s : State) : kept [.pch] s (chargingEnd target s) := by
  unfold chargingEnd
  dsimp only
  generalize (if s.pch.ocLimit < s.pch.lastCurrent then s.pch.ocStreak + 1 else 0) = streak
  split
  · exact (kept_setPch s _).trans (enterFault_kept _ _)
  · split
    · exact (kept_setPch s _).trans (enterPaused_kept target _)
    · cases target with
      | probe => exact (kept_setPch s _).trans (probeEnd_kept _)
      | charging k => exact (kept_setPch s _).trans (regulate_kept k _)

theorem handleState_kept (s : State) : kept [.pch] s (handleState s) := by
  unfold handleState
  split
  · exact chargingEnd_kept _ s
  · exact chargingEnd_kept _ s
  · exact kept_refl _ s

theorem clearFault_kept (s : State) : kept [.pch] s (clearFault s) := by
  unfold clearFault
  split
  · exact (kept_pch s _ _).trans (probeOrPause_kept _)
  · exact kept_refl _ s

theorem commitProfileState_kept (s : State) : kept [.pch] s (commitProfileState s) := by
  unfold commitProfileState
  split
  · dsimp only
    have restarted := (kept_pch s { s.pch with elapsed := 0, exitStreak := 0 } s.inflight).trans (probeOrPause_kept _)
    split
    · exact restarted.trans (kept_pch _ _ _)
    · exact restarted
  · exact kept_pch s _ _
  · exact kept_refl _ s

/-! ### Dock link -/

theorem setDockState_kept (st : DockState) (s : State) : kept [.dlc] s (setDockState st s) := by
  rw [setDockState_eq]
  exact kept_dlc s _ _

theorem recomputeDraw_kept (s : State) : kept [.dlc] s (recomputeDraw s) := by
  rw [recomputeDraw_eq]
  exact kept_dlc s _ _

theorem dockEvent_kept (kind : DockEventKind) (s : State) : kept [.dlc] s (dockEvent kind s) :=
  kept_dlc s _ _

theorem reportDropped_kept (dropped : Bool) (s : State) : kept [.dlc] s (reportDropped dropped s) := by
  cases dropped
  · exact kept_refl _ s
  · exact dockEvent_kept .itemsDropped s

theorem popItem_kept (s : State) : kept [.dlc] s (popItem s) :=
  kept_dlc s _ _

theorem countUnconsumed_kept (s : State) : kept [.dlc] s (countUnconsumed s) := by
  rw [countUnconsumed_eq]
  exact kept_dlc s _ _

theorem enterAttaching_kept (s : State) : kept [.dlc] s (enterAttaching s) := by
  rw [enterAttaching_eq]
  exact kept_dlc s _ _

theorem enterMute_kept (s : State) : kept [.dlc] s (enterMute s) := by
  rw [enterMute_eq]
  exact kept_dlc s _ _

theorem teardown_kept (target : DockState) (kind : DockEventKind) (s : State) :
    kept [.dlc] s (teardown target kind s) := by
  unfold teardown
  dsimp only
  refine kept.trans ?_ (dockEvent_kept _ _)
  refine kept.trans ?_ (kept_dlc _ _ _)
  refine kept.trans ?_ (recomputeDraw_kept _)
  refine kept.trans ?_ (kept_dlc _ _ _)
  refine kept.trans ?_ (setDockState_kept _ _)
  exact kept_dlc s _ _

theorem detach_kept (s : State) : kept [.dlc] s (detach s) :=
  (teardown_kept _ _ s).trans (kept_emits _ _ _)

theorem announce_kept (s : State) : kept [.dlc] s (announce s) :=
  kept_dlc s _ _

theorem exchangeFailed_kept (kind : FailKind) (e : Exchange) (s : State) :
    kept [.dlc] s (exchangeFailed kind e s) := by
  unfold exchangeFailed
  dsimp only
  have counted : kept [.dlc] s (if e.riding then countUnconsumed s else s) :=
    kept_ite (countUnconsumed_kept s) (kept_refl _ s)
  generalize (if e.riding then countUnconsumed s else s) = u at counted ⊢
  split
  · exact (counted.trans (kept_setDlc u _)).trans (enterMute_kept _)
  · exact (counted.trans (kept_setDlc u _)).trans (reportDropped_kept _ _)

theorem handleRecord_kept (s : State) (r : DockRecord) : kept [.dlc] s (handleRecord s r) := by
  cases r with
  | key modifier codes =>
    simp only [handleRecord, handleKey]
    split
    · exact kept_refl _ s
    · split <;> exact kept_dlc s _ _
  | pointer dx dy buttons wheel =>
    simp only [handleRecord, handlePointer]
    split
    · exact kept_refl _ s
    · split <;> exact kept_dlc s _ _
  | baseMotion x y z newData =>
    simp only [handleRecord, handleBaseMotion]
    split
    · exact kept_dlc s _ _
    · exact kept_refl _ s
  | status draw identity faultBits =>
    exact ((kept_dlc s _ _).trans (recomputeDraw_kept _)).trans (kept_offer _ _ _)

theorem attachStep_kept (records : List DockRecord) (s : State) : kept [.dlc] s (attachStep records s).1 := by
  unfold attachStep
  have attached (u : State) : kept [.dlc] u (recomputeDraw (setDockState .attached u)) :=
    (setDockState_kept _ u).trans (recomputeDraw_kept _)
  split
  · split
    · exact ((kept_dlc s _ _).trans (attached _)).trans (announce_kept _)
    · exact kept_refl _ s
  · dsimp only
    split
    · exact (attached s).trans (dockEvent_kept _ _)
    · exact (attached s).trans (announce_kept _)
  · exact kept_refl _ s

theorem settleItem_kept (riding consumed : Bool) (s : State) : kept [.dlc] s (settleItem riding consumed s) := by
  unfold settleItem
  repeat' split
  · exact kept_refl _ s
  · exact popItem_kept s
  · exact countUnconsumed_kept s
  · exact kept_refl _ s

theorem exchangeGood_kept (e : Exchange) (consumed : Bool) (records : List DockRecord) (s : State) :
    kept [.dlc] s (exchangeGood e consumed records s) := by
  unfold exchangeGood
  dsimp only
  refine kept.trans ?_ (reportDropped_kept _ _)
  have settled := settleItem_kept e.riding consumed s
  split
  · exact ((settled.trans (kept_setDlc _ _)).trans (attachStep_kept records _)).trans (foldl_kept handleRecord_kept records _)
  · exact (settled.trans (kept_setDlc _ _)).trans (attachStep_kept records _)

theorem contactAsserted_kept (s : State) : kept [.dlc] s (contactAsserted s) := by
  unfold contactAsserted
  split
  · split
    · exact enterAttaching_kept s
    · exact (setDockState_kept _ s).trans (kept_emit _ _ _)
  · exact kept_refl _ s

theorem contactClear_kept (s : State) : kept [.dlc] s (contactClear s) := by
  unfold contactClear
  split
  · exact kept_refl _ s
  · exact detach_kept s

theorem al0Changed_kept (on : Bool) (s : State) : kept [.dlc] s (al0Changed on s) := by
  unfold al0Changed
  dsimp only
  split
  · exact (kept_dlc s _ _).trans (enterAttaching_kept _)
  · exact kept_dlc s _ _
  · exact (kept_dlc s _ _).trans (teardown_kept _ _ _)
  · exact (kept_dlc s _ _).trans (teardown_kept _ _ _)
  · exact (kept_dlc s _ _).trans (teardown_kept _ _ _)
  · exact kept_dlc s _ _

theorem setKeyGate_kept (value : Gate) (s : State) : kept [.dlc] s (setKeyGate value s) := by
  unfold setKeyGate
  dsimp only
  split <;> exact kept_dlc s _ _

theorem setPointerGate_kept (value : Gate) (s : State) : kept [.dlc] s (setPointerGate value s) := by
  unfold setPointerGate
  dsimp only
  split <;> exact kept_dlc s _ _

theorem takeItem_kept (item : List Byte) (s : State) : kept [.dlc] s (takeItem item s) := by
  unfold takeItem
  split
  · exact kept_dlc s _ _
  · exact (kept_dlc s _ _).trans (dockEvent_kept _ _)

theorem departHead_kept (s : State) : kept [.hlm] s (departHead s) := by
  rw [departHead_eq]
  exact kept_hlm s _ _

theorem handItem_kept (item : List Byte) (s : State) : kept [.dlc, .hlm] s (handItem item s) := by
  unfold handItem
  dsimp only
  have taken : kept [.dlc, .hlm] s (takeItem item s) := (takeItem_kept item s).mono (by simp)
  repeat' split
  · exact taken.trans ((departHead_kept _).mono (by simp))
  · exact taken
  · exact (kept_hlm s _ _).mono (by simp)
  · exact kept_refl _ s

theorem restartDock_kept (s : State) : kept [.dlc] s (restartDock s) := by
  unfold restartDock
  dsimp only
  refine kept.trans ?_ (reportDropped_kept _ _)
  refine kept.trans ?_ (enterAttaching_kept _)
  have abandoned : kept [.dlc] s (abandonExchange s) := kept_dlc s _ _
  exact kept_ite (abandoned.trans (countUnconsumed_kept _)) abandoned

theorem writeMountBase_kept (rs : List Mount) (s : State) : kept [.dlc] s (writeMountBase rs s) := by
  cases rs with
  | nil => exact kept_refl _ s
  | cons m rs => exact kept_dlc s _ _

/-! ### Hinge engine -/

theorem deliverOutcome_kept (before : Hae) (s : State) : kept [.hae] s (deliverOutcome before s) :=
  kept_emits _ s _

theorem takeSample_kept (p : Sample) (s : State) : kept [.hae] s (takeSample p s) := by
  unfold takeSample
  split <;> exact kept_hae s _ _

theorem reviewQuality_kept (s : State) : kept [.hae] s (reviewQuality s) := by
  rw [reviewQuality_eq]
  exact kept_hae s _ _

theorem review_kept (before : Hae) (s : State) : kept [.hae] s (review before s) :=
  (reviewQuality_kept s).trans (((kept_hae _ _ _).trans (kept_hae _ _ _)).trans (deliverOutcome_kept before _))

/-! ### Rotation and classifier -/

theorem acceptRotation_kept (k : Rot) (s : State) : kept [.rot] s (acceptRotation k s) :=
  kept_rot s _ _

theorem applyDecision_kept (found : Option Rot) (s : State) : kept [.rot] s (applyDecision found s) := by
  unfold applyDecision
  split
  · exact kept_rot s _ _
  · unfold startCandidate
    repeat' split
    · exact kept_refl _ s
    · exact acceptRotation_kept _ s
    · exact kept_rot s _ _

theorem decideRotation_kept (v : Vec3) (s : State) : kept [.rot] s (decideRotation v s) := by
  unfold decideRotation
  dsimp only
  split
  · exact (kept_rot s _ _).trans (applyDecision_kept _ _)
  · exact kept_rot s _ _

theorem forceRotation_kept (s : State) : kept [.rot] s (forceRotation s) := by
  unfold forceRotation
  split
  · exact kept_refl _ s
  · exact kept_rot s _ _

theorem acceptPosture_kept (i : Nat) (s : State) : kept [.pcl] s (acceptPosture i s) :=
  kept_pcl s _ _

theorem publishRow_kept (row : Option Nat) (s : State) : kept [.pcl] s (publishRow row s) :=
  kept_pcl s _ _

theorem samePosture_kept (i : Nat) (s : State) : kept [.pcl] s (samePosture i s) := by
  unfold samePosture
  dsimp only
  split
  · exact kept_pcl s _ _
  · exact (kept_pcl s _ _).trans (publishRow_kept _ _)

theorem startPosture_kept (i : Nat) (s : State) : kept [.pcl] s (startPosture i s) := by
  unfold startPosture
  split
  · exact acceptPosture_kept i s
  · exact kept_pcl s _ _

theorem candidateCase_kept (i : Nat) (s : State) : kept [.pcl] s (candidateCase i s) := by
  unfold candidateCase
  split
  · split
    · exact kept_pcl s _ _
    · exact startPosture_kept i s
  · exact startPosture_kept i s

theorem evaluate_kept (s : State) : kept [.pcl] s (evaluate s) := by
  cases found : matchedRow s.pcl with
  | none =>
    rw [evaluate_of_noMatch found]
    exact kept_pcl s _ _
  | some i =>
    rw [evaluate_of_match found]
    split
    · exact (kept_pcl s _ _).trans (samePosture_kept i _)
    · exact (kept_pcl s _ _).trans (candidateCase_kept i _)

theorem commitPostures_kept (s : State) : kept [.pcl] s (commitPostures s) :=
  (kept_pcl s _ _).trans ((publishRow_kept _ _).trans (evaluate_kept _))

/-! ### Arbiter -/

theorem withdraw_kept (cause : WithdrawCause) (s : State) : kept [.swa] s (withdraw cause s) := by
  rw [withdraw_eq]
  exact kept_swa s _ _

theorem activity_kept (a : Activity) (s : State) : kept [.swa] s (activity a s) := by
  rw [activity_eq]
  exact kept_swa s _ _

theorem wakeFor_kept (r : WakeReason) (s : State) : kept [.swa] s (wakeFor r s) := by
  rw [wakeFor_eq]
  exact kept_swa s _ _

theorem wakeClass_kept (r : WakeReason) (s : State) : kept [.swa] s (wakeClass r s) := by
  unfold wakeClass
  dsimp only
  split
  · exact (kept_swa s _ _).trans (wakeFor_kept r _)
  · exact kept_swa s _ _

theorem closedHoldAct_kept (s : State) : kept [.swa] s (closedHoldAct s) := by
  unfold closedHoldAct
  split
  · exact kept_swa s _ _
  · exact kept_swa s _ _
  · exact kept_refl _ s

theorem holdStep_kept (old new : SleepClass) (s : State) : kept [.swa] s (holdStep old new s) := by
  unfold holdStep
  repeat' split
  · exact kept_refl _ s
  · exact kept_swa s _ _
  · exact kept_swa s _ _
  · exact kept_refl _ s

theorem classLeft_kept (old new : SleepClass) (s : State) : kept [.swa] s (classLeft old new s) := by
  unfold classLeft
  dsimp only
  have left : kept [.swa] s
      (if old = .closed ∧ new ≠ .closed then s.setSwa { s.swa with holdTimer := .cancelled } else s) :=
    kept_ite (kept_setSwa s _) (kept_refl _ s)
  exact kept_ite (left.trans (withdraw_kept _ _)) left

theorem startIdle_kept (s : State) : kept [.swa] s (startIdle s) :=
  kept_swa s _ _

theorem declareAsleep_kept (s : State) : kept [.swa] s (declareAsleep s) := by
  unfold declareAsleep
  dsimp only
  refine kept.trans ?_ (kept_emits _ _ _)
  refine (kept_swa s _ _).trans (?_ : kept [.swa] (s.setSwa { s.swa with platform := .asleep, advice := none }) _)
  split
  · exact wakeFor_kept _ _
  · exact kept_refl _ _

/-! ### Host link -/

theorem takeUp_kept (s : State) : kept [.hlm] s (takeUp s) := by
  by_cases idle : s.hlm.head = .idle
  · rw [takeUp_of_idle s idle]
    exact kept_hlm s _ _
  · rw [takeUp_of_busy s idle]
    exact kept_refl _ s

theorem joinQueue_kept (kindByte : Byte) (f : DownFrame) (s : State) : kept [.hlm] s (joinQueue kindByte f s) := by
  unfold joinQueue
  dsimp only
  repeat' split
  · exact (kept_hlm s _ _).trans (takeUp_kept _)
  · exact kept_hlm s _ _
  · exact kept_hlm s _ _

theorem applyRx_kept (s : State) (e : RxEvent) : kept [.hlm] s (applyRx s e) := by
  cases e with
  | discard f => cases f <;> exact kept_hlm s _ _
  | frame kindByte f => exact joinQueue_kept kindByte f s

theorem receive_kept (rx : List RxByte) (s : State) : kept [.hlm] s (receive rx s) :=
  (kept_hlm s _ _).trans (foldl_kept applyRx_kept _ _)

end Sys2Proof.Machine
end

-- PROOFS: what the upstream engine touches, and what a reset leaves.
section

namespace Sys2Proof.Machine

/-! ### The upstream engine's own steps -/

/-- Nothing but the upstream engine and the TAG of the last lost RESPONSE has changed. -/
def upstreamOnly (s t : State) : Prop :=
  ∃ (u : Ufe) (lost : Option Byte), t = { s with ufe := u, hlm := { s.hlm with lastLost := lost } }

theorem upstreamOnly_refl (s : State) : upstreamOnly s s := ⟨s.ufe, s.hlm.lastLost, rfl⟩

theorem upstreamOnly.trans {s t v : State} (h : upstreamOnly s t) (h' : upstreamOnly t v) : upstreamOnly s v := by
  obtain ⟨u, lost, rfl⟩ := h
  obtain ⟨u', lost', rfl⟩ := h'
  exact ⟨u', lost', rfl⟩

theorem upstreamOnly_setUfe (s : State) (u : Ufe) : upstreamOnly s (s.setUfe u) := ⟨u, s.hlm.lastLost, rfl⟩

theorem upstreamOnly.kept {s t : State} (h : upstreamOnly s t) : kept [.ufe, .hlm] s t := by
  obtain ⟨u, lost, rfl⟩ := h
  simp [Machine.kept]

/-- An operation repeated over a list changes no more than one application. -/
theorem foldl_upstreamOnly {α : Type} {f : State → α → State} (hf : ∀ s a, upstreamOnly s (f s a)) (as : List α)
    (s : State) : upstreamOnly s (as.foldl f s) := by
  induction as generalizing s with
  | nil => exact upstreamOnly_refl s
  | cons a as ih => exact (hf s a).trans (ih (f s a))

theorem lose_upstreamOnly (f : Frame) (s : State) : upstreamOnly s (lose f s) := by
  rw [lose_eq]
  exact ⟨_, _, rfl⟩

theorem tryBegin_upstreamOnly (s : State) : upstreamOnly s (tryBegin s) := by
  rw [tryBegin_frame]
  exact upstreamOnly_setUfe s _

theorem enqueue_upstreamOnly (f : Frame) (s : State) : upstreamOnly s (enqueue f s) :=
  (upstreamOnly_setUfe s _).trans (tryBegin_upstreamOnly _)

theorem evict_upstreamOnly (c : FrameClass) (f : Frame) (s : State) : upstreamOnly s (evict c f s) :=
  (upstreamOnly_setUfe s _).trans (lose_upstreamOnly f _)

/-- R163 in its cases: a frame joins, joins in the place of an evicted one of a lower class, or is lost. -/
theorem admitFrame_cases (f : Frame) (s : State) :
    admitFrame f s = enqueue f s
      ∧ s.ufe.queue.length < 48 ∧ (f.cls = .high ∨ s.ufe.lowerCount < 40)
    ∨ (∃ c g, admitFrame f s = enqueue f (evict c g s) ∧ oldest c s.ufe.queue = some g
        ∧ c ≠ .high ∧ (f.cls = .high ∨ f.cls = .normal ∧ c = .low))
    ∨ admitFrame f s = lose f s := by
  unfold admitFrame
  dsimp only
  cases hc : f.cls with
  | high =>
    dsimp only
    split
    case isTrue room => exact .inl ⟨rfl, room, .inl rfl⟩
    case isFalse full =>
      split
      case h_1 g low => exact .inr (.inl ⟨.low, g, rfl, low, by decide, .inl rfl⟩)
      case h_2 g _ normal => exact .inr (.inl ⟨.normal, g, rfl, normal, by decide, .inl rfl⟩)
      case h_3 => exact .inr (.inr rfl)
  | normal =>
    dsimp only
    split
    case isTrue room => exact .inl ⟨rfl, room.1, .inr room.2⟩
    case isFalse full =>
      split
      case h_1 g low => exact .inr (.inl ⟨.low, g, rfl, low, by decide, .inr ⟨rfl, rfl⟩⟩)
      case h_2 => exact .inr (.inr rfl)
  | low =>
    dsimp only
    split
    case isTrue room => exact .inl ⟨rfl, room.1, .inr room.2⟩
    case isFalse full => exact .inr (.inr rfl)

theorem admitFrame_upstreamOnly (f : Frame) (s : State) : upstreamOnly s (admitFrame f s) := by
  obtain ⟨joins, -⟩ | ⟨c, g, joins, -⟩ | lost := admitFrame_cases f s
  · rw [joins]
    exact enqueue_upstreamOnly f s
  · rw [joins]
    exact (evict_upstreamOnly c g s).trans (enqueue_upstreamOnly f _)
  · rw [lost]
    exact lose_upstreamOnly f s

theorem setFwd_upstreamOnly (i : Nat) (w : Forwarding) (s : State) : upstreamOnly s (setFwd i w s) :=
  upstreamOnly_setUfe s _

theorem queueBatch_upstreamOnly (st : Stream) (cls : FrameClass) (s : State) : upstreamOnly s (queueBatch st cls s) :=
  (setFwd_upstreamOnly _ _ s).trans (admitFrame_upstreamOnly _ _)

theorem routeBy_upstreamOnly (c : RouteColumn) (r : Record) (s : State) : upstreamOnly s (routeBy c r s) := by
  obtain ⟨action, cls⟩ := c
  cases action with
  | pass => exact admitFrame_upstreamOnly _ s
  | drop => exact upstreamOnly_setUfe s _
  | decimate n =>
    simp only [routeBy, decimate]
    split
    · exact (setFwd_upstreamOnly _ _ s).trans (admitFrame_upstreamOnly _ _)
    · exact setFwd_upstreamOnly _ _ s
  | changeOnly deadband maxHold =>
    simp only [routeBy, changeOnly]
    split
    · exact (setFwd_upstreamOnly _ _ s).trans (admitFrame_upstreamOnly _ _)
    · exact setFwd_upstreamOnly _ _ s
  | batch block flush =>
    simp only [routeBy, batch]
    split
    · exact (setFwd_upstreamOnly _ _ s).trans (queueBatch_upstreamOnly _ _ _)
    · exact setFwd_upstreamOnly _ _ s

theorem takeOffer_upstreamOnly (r : Record) (s : State) : upstreamOnly s (takeOffer r s) := by
  unfold takeOffer
  split
  · exact admitFrame_upstreamOnly _ s
  · exact routeBy_upstreamOnly _ r s

theorem flushStream_upstreamOnly (s : State) (st : Stream) : upstreamOnly s (flushStream s st) := by
  unfold flushStream
  split
  · exact upstreamOnly_refl s
  · exact queueBatch_upstreamOnly _ _ s

theorem resetThinning_upstreamOnly (s : State) (st : Stream) : upstreamOnly s (resetThinning s st) :=
  setFwd_upstreamOnly _ _ s

theorem changeColumn_upstreamOnly (p : Platform) (s : State) : upstreamOnly s (changeColumn p s) :=
  ((foldl_upstreamOnly flushStream_upstreamOnly _ s).trans (upstreamOnly_setUfe _ _)).trans
    (foldl_upstreamOnly resetThinning_upstreamOnly _ _)

theorem commitRoutes_upstreamOnly (s : State) : upstreamOnly s (commitRoutes s) :=
  ((foldl_upstreamOnly flushStream_upstreamOnly _ s).trans (upstreamOnly_setUfe _ _)).trans
    (foldl_upstreamOnly resetThinning_upstreamOnly _ _)

/-! ### Resets -/

/-- The blocks that carry invariants are at their reset values, whatever the reset has kept (R181, R182). -/
def restarted (t : State) : Prop :=
  t.hae = haeReset ∧ t.rot = rotReset ∧ t.pcl = pclReset ∧ t.pch = pchReset ∧ t.swa = swaReset
  ∧ (∃ stray, t.dlc = { dlcReset with stray := stray })
  ∧ (∃ hold, t.ufe = ufeReset hold)
  ∧ (∃ fastLink rx gapTimer, t.hlm = { hlmReset fastLink with rx := rx, gapTimer := gapTimer })

/-- A reset has been carried out, and the queue of commands is kept. -/
def resetFrom (s t : State) : Prop := restarted t ∧ t.pending = s.pending

theorem softResetCarriedOut_resetFrom (s : State) : resetFrom s (softResetCarriedOut s) :=
  ⟨⟨rfl, rfl, rfl, rfl, rfl, ⟨_, rfl⟩, ⟨_, rfl⟩, ⟨_, _, _, rfl⟩⟩, rfl⟩

/-- A loss report waits, or carries out the reset. -/
theorem settleLoss_cases (s : State) : settleLoss s = s ∨ resetFrom s (settleLoss s) := by
  unfold settleLoss
  split
  · exact .inr (softResetCarriedOut_resetFrom _)
  · exact .inl rfl

/-- A loss report settled after upstream steps: those alone, or a reset. -/
theorem upstreamOnly.settled {s t : State} (h : upstreamOnly s t) :
    upstreamOnly s (settleLoss t) ∨ resetFrom s (settleLoss t) := by
  obtain same | ⟨values, pending⟩ := settleLoss_cases t
  · rw [same]
    exact .inl h
  · exact .inr ⟨values, pending.trans h.kept.stays.2⟩

end Sys2Proof.Machine
end

-- PROOFS: what every command touches, and that every command completes (O3).
section

namespace Sys2Proof.Machine

/-- The blocks that a command's meaning may change, but for a reset that it brings about. -/
def touches : Instr → List Block
  | .powerOnReset _ _ => []
  | .lifSample _ _ _ _ => [.lif]
  | .sampleTimerExpiry | .readCompletion _ _ _ _ _ => [.lsp]
  | .portOff _ _ | .restartPortLid _ | .writeRowsMountLid _ _ _ _ => [.lsp, .hlm]
  | .pollTimerExpiry | .answerTimeout | .answerCutoff | .answerEnd _ | .answerBegin | .dockContactEvent _ _
  | .al0LevelDelivery _ | .attachTimerExpiry | .gateDelivery _ _ => [.dlc]
  | .dockItemHandover _ | .dockRoomNotice | .restartPortDock _ | .clearDockError _ | .writeRowsMountBase _ _ _ _ =>
    [.dlc, .hlm]
  | .computation _ | .lidFilterClear | .baseInvalidation | .portStateDelivery _ | .haeDockStateDelivery _
  | .freshnessTimerExpiry _ | .haeHallEvent _ _ _ => [.hae]
  | .lidVectorDelivery _ | .noVector | .policyDelivery _ _ | .rotationDwellExpiry => [.rot]
  | .setRotationLock _ _ => [.rot, .hlm]
  | .hingeDelivery _ _ _ | .pclDockStateDelivery _ | .pclHallEvent _ _ _ | .postureDwellExpiry => [.pcl]
  | .commitPosture _ | .clearNoMatch _ | .writeRowsPosture _ _ _ _ => [.pcl, .hlm]
  | .triggerDelivery _ => [.alu]
  | .setLine _ _ _ | .writeRowsAction _ _ _ _ => [.alu, .hlm]
  | .drawDelivery _ | .allowanceDelivery _ => [.ssu]
  | .penInsertion _ | .penRemoval _ | .ssuResultDelivery _ _ _ | .intervalEnd _ | .rechargeTimerExpiry => [.pch]
  | .clearCharger _ | .commitProfile _ | .writeRowsProfile _ _ _ _ => [.pch, .hlm]
  | .keyOccurrence | .pointerOccurrence | .dockAttach | .dockDetach | .acceptanceNotice _ _ | .sleepClassChange _
  | .rotationOccurrence | .penInsertedOccurrence | .penRemovedOccurrence | .lidMotionOccurrence _ | .idleTimerExpiry
  | .closedHoldExpiry => [.swa]
  | .setPlatformStateAsleep _ | .setPlatformStateAwake _ => [.swa, .hlm]
  | .recordOffer _ | .flushTimerExpiry _ | .columnChange _ | .commitRoute _ | .frameCompletion | .holdChange _
  | .writeRowsRoute _ _ _ _ => [.ufe, .hlm]
  | .byteReceived _ _ | .gapTimerExpiry | .requestUnknownCode _ _ | .identify _ | .getStatus _ _ | .getParam _ _
  | .readRows _ _ _ _ _ | .clearLinkErrors _ | .softReset _ => [.hlm]
  | .setParam _ _ _ => [.lif, .lsp, .dlc, .hae, .rot, .ssu, .pch, .swa, .hlm]

/-- A command ends in a next state: one in which no block but `touched` has changed, or a reset. -/
def ends (touched : List Block) (s : State) (o : Host.Outcome State Fault Refusal) : Prop :=
  ∃ t, o = .next t ∧ (stays touched s t ∨ resetFrom s t)

theorem kept.completes {touched : List Block} {s t : State} (h : kept touched s t) : ends touched s (.next t) :=
  ⟨t, rfl, .inl h.stays⟩

theorem ends_ite {touched : List Block} {s : State} {a b : Host.Outcome State Fault Refusal} {p : Prop} [Decidable p]
    (ha : ends touched s a) (hb : ends touched s b) : ends touched s (if p then a else b) := by
  split
  · exact ha
  · exact hb

/-- From a state in which the command has left flight. -/
theorem kept.completes_took {touched : List Block} {c : Instr} {s t : State} (h : kept touched (s.took c) t) :
    ends touched s (.next t) :=
  ((kept_took touched s c).trans h).completes

/-- A request answered after its owner's rule. -/
theorem ends_answer {touched : List Block} {c : Instr} {s u : State} (h : kept touched (s.took c) u)
    (hlm : .hlm ∈ touched) (tag code : Byte) (status : Status) (row : Byte) (data : List Byte) :
    ends touched s (.next (answer c tag code status row data u)) :=
  (h.answer hlm c tag code status row data).completes_took

/-- A WRITE_ROWS, whatever its checks find. -/
theorem ends_answerRows {α : Type} {touched : List Block} {c : Instr} {s : State} {tag : Byte} {found : RowCheck α}
    {write : List α → State → State} (h : ∀ rs u, kept touched u (write rs u)) (hlm : .hlm ∈ touched) :
    ends touched s (.next (answerRows c tag found write (s.took c))) := by
  cases found with
  | refused status => exact ends_answer (kept_refl _ _) hlm _ _ _ _ _
  | faulty index => exact ends_answer (kept_refl _ _) hlm _ _ _ _ _
  | rows rs => exact ends_answer (h rs _) hlm _ _ _ _ _

/-- Upstream steps, and the loss report they may leave. -/
theorem upstreamOnly.completes_settled {s t : State} (h : upstreamOnly s t) :
    ends [.ufe, .hlm] s (.next (settleLoss t)) := by
  obtain only | reset := h.settled
  · exact only.kept.completes
  · exact ⟨_, rfl, .inr reset⟩

theorem took_settled {c : Instr} {s t : State} (h : upstreamOnly (s.took c) t) :
    ends [.ufe, .hlm] s (.next (settleLoss t)) := by
  obtain only | ⟨values, pending⟩ := h.settled
  · exact only.kept.completes_took
  · exact ⟨_, rfl, .inr ⟨values, pending⟩⟩

/-! ### Sensors, dock and hinge -/

theorem execLifSample_ends (a b c d : Bool) (s : State) : ends [.lif] s (execLifSample a b c d s) := by
  refine ⟨_, rfl, .inl ?_⟩
  have sampled (u : Lif) : stays [.lif] s ({ s with partTime := s.partTime + 1 }.setLif u) := by
    refine ⟨fun b hb => ?_, rfl⟩
    cases b <;> simp_all [Block.same]
  have events (line : Line) (change : Option Bool) (u : State) : stays [.lif] u (lineEventOf line change u) :=
    ((lineEventOf_kept line change u).mono (List.nil_subset _)).stays
  exact ((((sampled _).trans (events ..)).trans (events ..)).trans (events ..)).trans (events ..)

theorem execReadCompletion_ends (identity : Byte) (newData : Bool) (x y z : BitVec 16) (s : State) :
    ends [.lsp] s (execReadCompletion identity newData x y z s) := by
  refine ends_ite ?_ (kept_refl _ s).completes
  split
  · exact (kept_lsp s _ _).completes
  · exact (readFailed_kept _ s).completes

theorem execPollTimerExpiry_ends (s : State) : ends [.dlc] s (execPollTimerExpiry s) := by
  refine ends_ite ?_ (kept_refl _ s).completes
  dsimp only
  split <;> exact (kept_dlc s _ _).completes

theorem execAnswerTimeout_ends (s : State) : ends [.dlc] s (execAnswerTimeout s) := by
  unfold execAnswerTimeout
  split
  · exact ends_ite (kept_refl _ s).completes (exchangeFailed_kept _ _ s).completes
  · exact (kept_refl _ s).completes

theorem execAnswerCutoff_ends (s : State) : ends [.dlc] s (execAnswerCutoff s) := by
  refine ends_ite (kept_setDlc s _).completes ?_
  split
  · exact (exchangeFailed_kept _ _ s).completes
  · exact (kept_refl _ s).completes

theorem execAnswerEnd_ends (bytes : List Byte) (s : State) : ends [.dlc] s (execAnswerEnd bytes s) := by
  refine ends_ite (kept_setDlc s _).completes ?_
  split
  · exact (kept_refl _ s).completes
  · split
    · exact (exchangeFailed_kept _ _ s).completes
    · exact (exchangeGood_kept _ _ _ s).completes

theorem execAnswerBegin_ends (s : State) : ends [.dlc] s (execAnswerBegin s) := by
  unfold execAnswerBegin
  split <;> exact (kept_dlc s _ _).completes

theorem execDockRoomNotice_ends (s : State) : ends [.dlc, .hlm] s (execDockRoomNotice s) := by
  unfold execDockRoomNotice
  dsimp only
  split
  · exact (handItem_kept _ _).completes_took
  · exact (kept_took _ s _).completes

theorem execFreshnessTimerExpiry_ends (sensor : Sensor) (s : State) :
    ends [.hae] s (execFreshnessTimerExpiry sensor s) := by
  cases sensor <;>
    exact ends_ite (kept_refl _ s).completes
      (ends_ite (kept_setHae s _).completes ((kept_setHae s _).trans (review_kept _ _)).completes)

theorem execComputation_kept (p : Sample) (before : Hae) (s : State) :
    kept [.hae] s (deliverOutcome before (updateReported (updateFace (decideAndWork (takeSample p s))))) :=
  (takeSample_kept p s).trans
    ((((kept_setHae _ _).trans (kept_setHae _ _)).trans (kept_setHae _ _)).trans (deliverOutcome_kept _ _))

/-! ### Rotation, classifier, charger and arbiter -/

theorem execPolicyDelivery_ends (policy : Policy) (acceptance : Bool) (s : State) :
    ends [.rot] s (execPolicyDelivery policy acceptance s) := by
  cases policy with
  | free => exact (kept_setRot _ _).completes_took
  | hold => exact (kept_setRot _ _).completes_took
  | forceRot0 => exact kept.completes_took (kept_ite ((kept_setRot _ _).trans (forceRotation_kept _)) (kept_setRot _ _))

theorem execRotationDwellExpiry_ends (s : State) : ends [.rot] s (execRotationDwellExpiry s) := by
  unfold execRotationDwellExpiry
  split
  · exact ends_ite (acceptRotation_kept _ s).completes (kept_refl _ s).completes
  · exact (kept_refl _ s).completes

theorem execPostureDwellExpiry_ends (s : State) : ends [.pcl] s (execPostureDwellExpiry s) := by
  unfold execPostureDwellExpiry
  split
  · exact ends_ite (acceptPosture_kept _ s).completes (kept_refl _ s).completes
  · exact (kept_refl _ s).completes

theorem execSetLine_ends (tag line level : Byte) (s : State) : ends [.alu, .hlm] s (execSetLine tag line level s) := by
  unfold execSetLine
  dsimp only
  split
  · exact ends_answer (kept_refl _ _) (by simp) _ _ _ _ _
  · exact ends_ite (ends_answer ((putLine_kept _ _ _).mono (by simp)) (by simp) _ _ _ _ _)
      (ends_answer (kept_refl _ _) (by simp) _ _ _ _ _)

theorem execSsuResultDelivery_ends (a : Allowance) (ceiling : Nat) (pause : Bool) (s : State) :
    ends [.pch] s (execSsuResultDelivery a ceiling pause s) := by
  unfold execSsuResultDelivery
  dsimp only
  split
  · exact ((kept_setPch _ _).trans (resume_kept _ _)).completes_took
  · exact (kept_setPch _ _).completes_took

theorem execIntervalEnd_ends (current : Nat) (s : State) : ends [.pch] s (execIntervalEnd current s) := by
  have handled := (kept_setPch s { s.pch with lastCurrent := current }).trans (handleState_kept _)
  exact ((handled.trans (kept_setPch _ _)).trans (kept_offer _ _ _)).completes

theorem execAcceptanceNotice_ends (old new : SleepClass) (s : State) :
    ends [.swa] s (execAcceptanceNotice old new s) := by
  have opened : kept [.swa] (s.took (.acceptanceNotice old new))
      (if old = .closed ∧ new ≠ .closed then wakeClass .lidOpened (s.took (.acceptanceNotice old new))
        else s.took (.acceptanceNotice old new)) :=
    kept_ite (wakeClass_kept _ _) (kept_refl _ _)
  have accepted (b : Swa) := ((opened.trans (kept_setSwa _ b)).trans (holdStep_kept old new _)).trans (activity_kept .posture _)
  exact kept.completes_took (kept_ite ((accepted _).trans (closedHoldAct_kept _)) (accepted _))

theorem execSleepClassChange_ends (cls : SleepClass) (s : State) : ends [.swa] s (execSleepClassChange cls s) := by
  have left := (kept_setSwa (s.took (.sleepClassChange cls)) { s.swa with cls := cls }).trans
    (classLeft_kept s.swa.cls cls _)
  exact kept.completes_took (kept_ite (left.trans (startIdle_kept _)) left)

theorem execIdleTimerExpiry_ends (s : State) : ends [.swa] s (execIdleTimerExpiry s) :=
  ends_ite (ends_ite (kept_swa s _ _).completes (kept_setSwa s _).completes) (kept_refl _ s).completes

/-- A wake-class event, and then an activity event. -/
theorem occurrence_kept (r : WakeReason) (a : Activity) (s : State) : kept [.swa] s (activity a (wakeClass r s)) :=
  (wakeClass_kept r s).trans (activity_kept a _)

/-! ### Upstream engine and host link -/

theorem execColumnChange_ends (p : Platform) (s : State) : ends [.ufe, .hlm] s (execColumnChange p s) :=
  ends_ite (kept_took _ s _).completes (took_settled (changeColumn_upstreamOnly _ _))

/-- After a reset no request is at the head, and answering touches no block. -/
theorem resetFrom.answer {s u : State} (h : resetFrom s u) (c : Instr) (tag code : Byte) (status : Status) (row : Byte)
    (data : List Byte) : resetFrom s (answer c tag code status row data u) := by
  obtain ⟨⟨hae, rot, pcl, pch, swa, dlc, ufe, fastLink, rx, gapTimer, hlm⟩, pending⟩ := h
  have noHead : headIs c (u.offer (.response tag code status row data false)) = false := by
    simp [headIs, hlm, hlmReset]
  rw [Machine.answer, if_neg (by simp [noHead])]
  exact ⟨⟨hae, rot, pcl, pch, swa, dlc, ufe, fastLink, rx, gapTimer, hlm⟩, pending⟩

theorem execCommitRoute_ends (tag : Byte) (s : State) : ends [.ufe, .hlm] s (execCommitRoute tag s) := by
  obtain only | ⟨values, pending⟩ := (commitRoutes_upstreamOnly (s.took (.commitRoute tag))).settled
  · exact ends_answer only.kept (by simp) _ _ _ _ _
  · exact ⟨_, rfl, .inr (resetFrom.answer ⟨values, pending⟩ _ _ _ _ _ _)⟩

/-- A transmitter's test after a loss report. -/
theorem tryBegin_resetFrom {s t : State} (h : resetFrom s t) : resetFrom s (tryBegin t) := by
  obtain ⟨⟨hae, rot, pcl, pch, swa, dlc, ⟨hold, ufe⟩, hlm⟩, pending⟩ := h
  have idle : tryBegin t = t := by
    simp [tryBegin, ufe, ufeReset, oldest]
  rw [idle]
  exact ⟨⟨hae, rot, pcl, pch, swa, dlc, ⟨hold, ufe⟩, hlm⟩, pending⟩

theorem execFrameCompletion_ends (s : State) : ends [.ufe, .hlm] s (execFrameCompletion s) := by
  unfold execFrameCompletion
  split
  · exact (kept_refl _ s).completes
  · dsimp only
    refine ends_ite ⟨_, rfl, .inr (softResetCarriedOut_resetFrom _)⟩ ?_
    obtain only | reset := (upstreamOnly_setUfe s { s.ufe with sending := none }).settled
    · exact (only.trans (tryBegin_upstreamOnly _)).kept.completes
    · exact ⟨_, rfl, .inr (tryBegin_resetFrom reset)⟩

theorem freeUsed_ends {c : Instr} {s : State} (tag code : Byte) (status : Status) (row : Byte) (data : List Byte) :
    ends [.hlm] s (.next (answer c tag code status row data (s.took c).freeUsed)) := by
  refine ⟨_, rfl, .inl (stays.trans ?_ (answer_kept c tag code status row data _).stays)⟩
  refine ⟨fun b _ => ?_, rfl⟩
  cases b <;> rfl

theorem execGetStatus_ends (tag sect : Byte) (s : State) : ends [.hlm] s (execGetStatus tag sect s) := by
  unfold execGetStatus
  dsimp only
  split
  · exact freeUsed_ends _ _ _ _ _
  · exact ends_answer (kept_refl _ _) (by simp) _ _ _ _ _

theorem execReadRows_ends (tag table bank start count : Byte) (s : State) :
    ends [.hlm] s (execReadRows tag table bank start count s) := by
  unfold execReadRows
  dsimp only
  split
  · exact ends_answer (kept_refl _ _) (by simp) _ _ _ _ _
  · exact ends_ite (freeUsed_ends _ _ _ _ _) (ends_answer (kept_refl _ _) (by simp) _ _ _ _ _)

theorem execGetParam_ends (tag id : Byte) (s : State) : ends [.hlm] s (execGetParam tag id s) := by
  unfold execGetParam
  dsimp only
  split <;> exact ends_answer (kept_refl _ _) (by simp) _ _ _ _ _

theorem execSoftReset_ends (tag : Byte) (s : State) : ends [.hlm] s (execSoftReset tag s) :=
  kept.completes_took (kept_ite ((kept_offer _ _ _).trans (kept_setHlm _ _)) ((kept_offer _ _ _).trans (kept_setHlm _ _)))

/-- A parameter's value is applied in the block that owns it. -/
theorem apply_kept (v : Int) (s : State) (p : Param) :
    kept [.lif, .lsp, .dlc, .hae, .rot, .ssu, .pch, .swa, .hlm] s (p.apply v s) := by
  cases p with
  | dockDefaultDraw => exact ((kept_setDlc s _).trans (recomputeDraw_kept _)).mono (by simp)
  | railLimit => exact (supplyEvent_kept _ s).mono (by simp)
  | railReserve => exact (supplyEvent_kept _ s).mono (by simp)
  | coilFull => exact (supplyEvent_kept _ s).mono (by simp)
  | dutyMax => exact (supplyEvent_kept _ s).mono (by simp)
  | coilMin => exact (supplyEvent_kept _ s).mono (by simp)
  | _ => simp [kept, Param.apply, setIdleTimeout, setBusyOn, setBusyOff]

theorem execSetParam_ends (tag id : Byte) (value : BitVec 32) (s : State) :
    ends [.lif, .lsp, .dlc, .hae, .rot, .ssu, .pch, .swa, .hlm] s (execSetParam tag id value s) := by
  unfold execSetParam
  dsimp only
  split
  · exact ends_answer (kept_refl _ _) (by simp) _ _ _ _ _
  · exact ends_answer (apply_kept _ _ _) (by simp) _ _ _ _ _

/-! ### Every command -/

/-- Every command ends in a next state, in which only the blocks it touches have changed, or in a reset. -/
theorem exec_ends (c : Instr) (s : State) : ends (touches c) s (exec c s) := by
  cases c with
  | powerOnReset rateSel hold =>
    exact ⟨_, rfl, .inr ⟨⟨rfl, rfl, rfl, rfl, rfl, ⟨_, rfl⟩, ⟨_, rfl⟩, ⟨rateSel, [], .cancelled, rfl⟩⟩, rfl⟩⟩
  | lifSample a b c d => exact execLifSample_ends a b c d s
  | sampleTimerExpiry => exact ends_ite (kept_setLsp s _).completes (kept_refl _ s).completes
  | readCompletion identity newData x y z => exact execReadCompletion_ends identity newData x y z s
  | portOff tag port =>
    exact ends_ite (ends_answer ((turnOff_kept _).mono (by simp [touches])) (by simp [touches]) _ _ _ _ _)
      (ends_answer (kept_refl _ _) (by simp [touches]) _ _ _ _ _)
  | restartPortLid tag => exact ends_answer ((kept_lsp _ _ _).mono (by simp [touches])) (by simp [touches]) _ _ _ _ _
  | pollTimerExpiry => exact execPollTimerExpiry_ends s
  | answerTimeout => exact execAnswerTimeout_ends s
  | answerCutoff => exact execAnswerCutoff_ends s
  | answerEnd bytes => exact execAnswerEnd_ends bytes s
  | dockContactEvent asserted time => exact kept.completes_took (kept_ite (contactAsserted_kept _) (contactClear_kept _))
  | al0LevelDelivery on => exact kept.completes_took (kept_ite (kept_refl _ _) (al0Changed_kept _ _))
  | attachTimerExpiry =>
    exact ends_ite ((kept_setDlc s _).trans (enterMute_kept _)).completes (kept_refl _ s).completes
  | gateDelivery which value =>
    cases which with
    | key => exact (setKeyGate_kept value _).completes_took
    | pointer => exact (setPointerGate_kept value _).completes_took
  | dockItemHandover item => exact (handItem_kept item _).completes_took
  | restartPortDock tag =>
    exact ends_ite (ends_answer ((restartDock_kept _).mono (by simp [touches])) (by simp [touches]) _ _ _ _ _)
      (ends_answer (kept_refl _ _) (by simp [touches]) _ _ _ _ _)
  | clearDockError tag => exact ends_answer ((kept_setDlc _ _).mono (by simp [touches])) (by simp [touches]) _ _ _ _ _
  | computation sample => exact (execComputation_kept sample _ _).completes_took
  | lidFilterClear => exact (((kept_setHae _ _).trans (kept_emit _ _ _)).trans (review_kept _ _)).completes_took
  | baseInvalidation => exact ((kept_setHae _ _).trans (review_kept _ _)).completes_took
  | portStateDelivery state => exact ((kept_setHae _ _).trans (review_kept _ _)).completes_took
  | haeDockStateDelivery state => exact ((kept_setHae _ _).trans (review_kept _ _)).completes_took
  | freshnessTimerExpiry sensor => exact execFreshnessTimerExpiry_ends sensor s
  | haeHallEvent hall asserted time =>
    exact ((((kept_setHae _ _).trans (kept_setHae _ _)).trans (kept_setHae _ _)).trans (deliverOutcome_kept _ _)).completes_took
  | lidVectorDelivery v => exact kept.completes_took (kept_ite (decideRotation_kept v _) (kept_refl _ _))
  | noVector => exact (kept_setRot _ _).completes_took
  | policyDelivery policy acceptance => exact execPolicyDelivery_ends policy acceptance s
  | rotationDwellExpiry => exact execRotationDwellExpiry_ends s
  | setRotationLock tag lock =>
    exact ends_ite (ends_answer ((kept_setRot _ _).mono (by simp [touches])) (by simp [touches]) _ _ _ _ _)
      (ends_ite (ends_answer ((kept_setRot _ _).mono (by simp [touches])) (by simp [touches]) _ _ _ _ _)
        (ends_answer (kept_refl _ _) (by simp [touches]) _ _ _ _ _))
  | hingeDelivery hinge quality face => exact ((kept_setPcl _ _).trans (evaluate_kept _)).completes_took
  | pclDockStateDelivery state => exact ((kept_setPcl _ _).trans (evaluate_kept _)).completes_took
  | pclHallEvent hall asserted time => exact ((kept_setPcl _ _).trans (evaluate_kept _)).completes_took
  | postureDwellExpiry => exact execPostureDwellExpiry_ends s
  | commitPosture tag =>
    exact ends_ite (ends_answer ((commitPostures_kept _).mono (by simp [touches])) (by simp [touches]) _ _ _ _ _)
      (ends_answer (kept_refl _ _) (by simp [touches]) _ _ _ _ _)
  | clearNoMatch tag => exact ends_answer ((kept_setPcl _ _).mono (by simp [touches])) (by simp [touches]) _ _ _ _ _
  | triggerDelivery trigger => exact (foldl_kept (testLine_kept trigger) _ _).completes_took
  | setLine tag line level => exact execSetLine_ends tag line level s
  | drawDelivery draw => exact (supplyEvent_kept _ _).completes_took
  | allowanceDelivery allowance => exact (supplyEvent_kept _ _).completes_took
  | penInsertion time => exact ends_ite (insertPen_kept _).completes_took (kept_took _ s _).completes
  | penRemoval time => exact ends_ite (kept_took _ s _).completes (removePen_kept _).completes_took
  | ssuResultDelivery allowance dutyCeiling budgetPause =>
    exact execSsuResultDelivery_ends allowance dutyCeiling budgetPause s
  | intervalEnd current => exact execIntervalEnd_ends current s
  | rechargeTimerExpiry => exact ends_ite ((kept_setPch s _).trans (probeOrPause_kept _)).completes (kept_refl _ s).completes
  | clearCharger tag => exact ends_answer ((clearFault_kept _).mono (by simp [touches])) (by simp [touches]) _ _ _ _ _
  | commitProfile tag =>
    exact ends_answer (((kept_setPch _ _).trans (commitProfileState_kept _)).mono (by simp [touches])) (by simp [touches]) _ _ _ _ _
  | keyOccurrence => exact (occurrence_kept _ _ _).completes_took
  | pointerOccurrence => exact (occurrence_kept _ _ _).completes_took
  | dockAttach => exact (occurrence_kept _ _ _).completes_took
  | dockDetach => exact (occurrence_kept _ _ _).completes_took
  | acceptanceNotice old new => exact execAcceptanceNotice_ends old new s
  | sleepClassChange cls => exact execSleepClassChange_ends cls s
  | rotationOccurrence => exact (activity_kept _ _).completes_took
  | penInsertedOccurrence => exact (occurrence_kept _ _ _).completes_took
  | penRemovedOccurrence => exact (occurrence_kept _ _ _).completes_took
  | lidMotionOccurrence isActivity => exact kept.completes_took (kept_ite (occurrence_kept _ _ _) (wakeClass_kept _ _))
  | idleTimerExpiry => exact execIdleTimerExpiry_ends s
  | closedHoldExpiry => exact ends_ite ((kept_setSwa s _).trans (closedHoldAct_kept _)).completes (kept_refl _ s).completes
  | setPlatformStateAsleep tag => exact ends_answer ((declareAsleep_kept _).mono (by simp [touches])) (by simp [touches]) _ _ _ _ _
  | setPlatformStateAwake tag => exact ends_answer ((kept_swa _ _ _).mono (by simp [touches])) (by simp [touches]) _ _ _ _ _
  | recordOffer record => exact took_settled (takeOffer_upstreamOnly record _)
  | flushTimerExpiry stream => exact ends_ite (queueBatch_upstreamOnly _ _ s).completes_settled (kept_refl _ s).completes
  | columnChange platform => exact execColumnChange_ends platform s
  | commitRoute tag => exact execCommitRoute_ends tag s
  | frameCompletion => exact execFrameCompletion_ends s
  | holdChange asserted => exact ((upstreamOnly_setUfe s _).trans (tryBegin_upstreamOnly _)).kept.completes
  | byteReceived byte stopBit => exact (receive_kept _ s).completes
  | gapTimerExpiry => exact ends_ite ((kept_setHlm s _).trans (receive_kept _ _)).completes (kept_refl _ s).completes
  | dockRoomNotice => exact execDockRoomNotice_ends s
  | requestUnknownCode tag payload => exact ends_answer (kept_refl _ _) (by simp [touches]) _ _ _ _ _
  | identify tag => exact ends_answer (kept_refl _ _) (by simp [touches]) _ _ _ _ _
  | getStatus tag sect => exact execGetStatus_ends tag sect s
  | setParam tag id value => exact execSetParam_ends tag id value s
  | getParam tag id => exact execGetParam_ends tag id s
  | writeRowsMountLid tag start count rows =>
    exact ends_answerRows (fun rs u => (writeMountLid_kept rs u).mono (by simp [touches])) (by simp [touches])
  | writeRowsMountBase tag start count rows =>
    exact ends_answerRows (fun rs u => (writeMountBase_kept rs u).mono (by simp [touches])) (by simp [touches])
  | writeRowsPosture tag start count rows =>
    exact ends_answerRows (fun rs u => (kept_setPcl u _).mono (by simp [touches])) (by simp [touches])
  | writeRowsRoute tag start count rows =>
    exact ends_answerRows (fun rs u => (kept_setUfe u _).mono (by simp [touches])) (by simp [touches])
  | writeRowsProfile tag start count rows =>
    exact ends_answerRows (fun rs u => (kept_setPch u _).mono (by simp [touches])) (by simp [touches])
  | writeRowsAction tag start count rows =>
    exact ends_answerRows (fun rs u => (putLines_kept _ rs u).mono (by simp [touches])) (by simp [touches])
  | readRows tag table bank start count => exact execReadRows_ends tag table bank start count s
  | clearLinkErrors tag => exact ends_answer (kept_setHlm _ _) (by simp) _ _ _ _ _
  | softReset tag => exact execSoftReset_ends tag s
  | answerBegin => exact execAnswerBegin_ends s

/-! ### Requests that write -/

/-- SET_PARAM is refused with nothing changed, or applies its clamped value. -/
theorem exec_setParam_cases {tag id : Byte} {value : BitVec 32} {s t : State}
    (h : exec (.setParam tag id value) s = .next t) :
    (∃ (code : Byte) (status : Status) (row : Byte) (data : List Byte), t = answer (.setParam tag id value) tag code status row data (s.took (.setParam tag id value)))
    ∨ ∃ (p : Param) (code : Byte) (status : Status) (row : Byte) (data : List Byte), t = answer (.setParam tag id value) tag code status row data
        (p.apply (p.clamp s value.toInt) (s.took (.setParam tag id value))) := by
  have h : execSetParam tag id value s = .next t := h
  unfold execSetParam at h
  dsimp only at h
  split at h
  · cases h
    exact .inl ⟨_, _, _, _, rfl⟩
  · next p _ =>
    cases h
    exact .inr ⟨p, _, _, _, _, rfl⟩

/-- A WRITE_ROWS is refused with nothing changed, or its rows go to their owner. -/
theorem answerRows_cases {α : Type} (c : Instr) (tag : Byte) (found : RowCheck α) (write : List α → State → State)
    (s : State) :
    (∃ code status row data, answerRows c tag found write s = answer c tag code status row data s)
    ∨ ∃ rs code status row data, found = .rows rs
        ∧ answerRows c tag found write s = answer c tag code status row data (write rs s) := by
  cases found with
  | refused status => exact .inl ⟨_, _, _, _, rfl⟩
  | faulty index => exact .inl ⟨_, _, _, _, rfl⟩
  | rows rs => exact .inr ⟨rs, _, _, _, _, rfl, rfl⟩

/-- Settles O3: each meaning ends in a next state, and neither its blocks' rules nor a reset touch the queue of commands. -/
theorem everyCommandCompletes : Obligations.EveryCommandCompletes := by
  intro c s
  obtain ⟨t, ended, stayed | reset⟩ := exec_ends c s
  · exact ⟨t, ended, stayed.2⟩
  · exact ⟨t, ended, reset.2⟩

end Sys2Proof.Machine
end

-- PROOFS: the step, the reset state, and how an invariant is shown to be kept (O1, O4, O6).
section

namespace Sys2Proof.Machine

/-! ### The step -/

/-- Settles O1: the three cases of `step`. -/
theorem stepTakesFront : Obligations.StepTakesFront := by
  refine ⟨fun c rest s front => ?_, fun c rest s empty oldest => ?_, fun s empty idle => ?_⟩
  · simp only [step, front]
  · simp only [step, empty, oldest]
  · simp only [step, empty, idle]

/-- A step carries out one command, with the queue as it stands or without its front, or changes nothing. -/
theorem step_cases {s t : State} (h : step s = .next t) :
    t = s ∨ ∃ c queue, exec c { s with pending := queue } = .next t := by
  obtain ⟨front, delivery, idle⟩ := stepTakesFront
  cases hp : s.pending with
  | cons c rest =>
    rw [front c rest s hp] at h
    exact .inr ⟨c, rest, h⟩
  | nil =>
    cases hf : s.inflight with
    | cons c rest =>
      rw [delivery c rest s hp hf] at h
      exact .inr ⟨c, s.pending, hf ▸ h⟩
    | nil =>
      rw [idle s hp hf] at h
      cases h
      exact .inl rfl

/-- Settles O4: both resets' values, as the chapters list them. -/
theorem resetTaken : Obligations.ResetTaken := by
  refine ⟨fun _ _ _ => rfl, ?_⟩
  intro mount fallback postures profile both awake routes line s
  exact ⟨rfl, rfl, rfl, rfl, rfl, rfl, rfl, rfl, rfl, rfl, rfl, rfl, rfl, rfl, rfl, rfl⟩

/-! ### The bounds of the reset state -/

theorem restarted_reset : restarted State.reset :=
  ⟨rfl, rfl, rfl, rfl, rfl, ⟨false, rfl⟩, ⟨false, rfl⟩, ⟨false, [], .cancelled, rfl⟩⟩

theorem restarted.upstream {t : State} (h : restarted t) : upstreamBounded t ∧ transmitterSettled t ∧ finalsHigh t := by
  obtain ⟨-, -, -, -, -, -, ⟨hold, ufe⟩, -⟩ := h
  simp [upstreamBounded, transmitterSettled, finalsHigh, ufe, ufeReset, Ufe.lowerCount, classCount]

theorem restarted.downstream {t : State} (h : restarted t) : downstreamBounded t ∧ offersBounded t := by
  obtain ⟨-, -, -, -, -, ⟨stray, dlc⟩, -, fastLink, rx, gapTimer, hlm⟩ := h
  simp [downstreamBounded, offersBounded, dlc, hlm, dlcReset, hlmReset]

theorem restarted.banks {t : State} (h : restarted t) : banksShaped t ∧ firstStageInUse t := by
  obtain ⟨-, -, pcl, pch, -, -, ⟨hold, ufe⟩, -⟩ := h
  simp [banksShaped, firstStageInUse, ufe, pcl, pch, ufeReset, pclReset, pchReset, defaultPostures, defaultRoutes,
    defaultProfile]

theorem restarted.hinge {t : State} (h : restarted t) : hingeInRange t := by
  obtain ⟨hae, -⟩ := h
  simp [hingeInRange, hae, haeReset]

theorem restarted.dwells {t : State} (h : restarted t) : dwellsPaired t := by
  obtain ⟨-, rot, pcl, -⟩ := h
  simp [dwellsPaired, rot, pcl, rotReset, pclReset]

theorem restarted.coil {t : State} (h : restarted t) : coilQuiet t := by
  obtain ⟨-, -, -, pch, -⟩ := h
  simp [coilQuiet, pch, pchReset]

theorem restarted.sleep {t : State} (h : restarted t) : sleepConsistent t := by
  obtain ⟨-, -, -, -, swa, -⟩ := h
  simp [sleepConsistent, swa, swaReset]

theorem restarted.busy {t : State} (h : restarted t) : busyConsistent t := by
  obtain ⟨-, -, -, -, -, -, -, fastLink, rx, gapTimer, hlm⟩ := h
  simp [busyConsistent, hlm, hlmReset]

/-- Settles O6: the bounds hold of every state a reset leaves, and so of the reset state. -/
theorem resetMeetsBounds : Obligations.ResetMeetsBounds := by
  obtain ⟨bounded, settled, high⟩ := restarted_reset.upstream
  obtain ⟨downstream, offers⟩ := restarted_reset.downstream
  obtain ⟨shaped, first⟩ := restarted_reset.banks
  exact ⟨bounded, settled, high, downstream, offers, shaped, first, restarted_reset.hinge, restarted_reset.dwells,
    restarted_reset.coil, restarted_reset.sleep, restarted_reset.busy⟩

/-! ### Invariants -/

/-- An invariant that reads the blocks `reads` alone, holds after a reset and is kept by the commands that touch one of those
blocks, is kept by every step. -/
theorem step_keeps {P : State → Prop} (reads : List Block)
    (reading : ∀ s t, (∀ b ∈ reads, b.same s t) → P s → P t) (reset : ∀ t, restarted t → P t)
    (run : ∀ c s t, (∃ b ∈ reads, b ∈ touches c) → P s → exec c s = .next t → P t) :
    ∀ s t, P s → step s = .next t → P t := by
  intro s t hs h
  obtain rfl | ⟨c, queue, h⟩ := step_cases h
  · exact hs
  have hs' : P { s with pending := queue } := by
    refine reading s _ (fun b _ => ?_) hs
    cases b <;> rfl
  by_cases touched : ∃ b ∈ reads, b ∈ touches c
  · exact run c _ t touched hs' h
  obtain ⟨t', ended, stayed | ⟨values, -⟩⟩ := exec_ends c { s with pending := queue }
  · rw [ended] at h
    cases h
    exact reading _ t (fun b hb => stayed.1 b fun touching => touched ⟨b, hb, touching⟩) hs'
  · rw [ended] at h
    cases h
    exact reset t values

end Sys2Proof.Machine
end

-- PROOFS: the hinge stays in its ranges (chapter 3, 3.2; O10).
section

namespace Sys2Proof.Machine

/-! ### The values that the engine computes -/

theorem rawHinge_lt (h : Hae) : rawHinge h < 5760 := by
  unfold rawHinge
  omega

theorem clampNat_le (hi : Nat) (v : Int) : clampNat hi v ≤ hi := by
  unfold clampNat clampInt
  split_ifs <;> omega

theorem hallRow_le (hall : Hall) {r : Nat} (h : r ≤ 5760) : hallRow hall r ≤ 5760 := by
  cases hall with
  | front =>
    simp only [hallRow]
    split_ifs <;> omega
  | rear =>
    simp only [hallRow]
    split_ifs <;> omega

theorem track_le (h : Hae) {r : Nat} (hr : r ≤ 5760) : track h r ≤ 5760 := by
  unfold track
  split
  · exact hallRow_le .front hr
  · split
    · exact hallRow_le .rear hr
    · split
      · exact hr
      · exact clampNat_le 5760 _

theorem anchor_le (hall : Hall) (tracked : Option Nat) (h : ∀ t ∈ tracked, t ≤ 5760) :
    ∀ t ∈ anchor hall tracked, t ≤ 5760 := by
  cases hall with
  | front =>
    cases tracked with
    | none => simp [anchor]
    | some t => simp only [anchor]; split_ifs <;> simp_all
  | rear =>
    cases tracked with
    | none => simp [anchor]
    | some t => simp only [anchor]; split_ifs <;> simp_all

theorem reportHinge_le (deadband : Nat) (tracked reported : Option Nat) (h : ∀ t ∈ tracked, t ≤ 5760)
    (h' : ∀ r ∈ reported, r ≤ 5760) : ∀ r ∈ reportHinge deadband tracked reported, r ≤ 5760 := by
  cases tracked with
  | none => simp [reportHinge]
  | some t =>
    cases reported with
    | none => simpa [reportHinge] using h
    | some r => simp only [reportHinge]; split_ifs <;> simp_all

/-! ### The engine's steps -/

/-- The bounds of 3.2, on the engine alone. -/
def Hae.inRange (h : Hae) : Prop :=
  (∀ t ∈ h.tracked, t ≤ 5760) ∧ (∀ r ∈ h.reported, r ≤ 5760) ∧ (∀ r ∈ h.raw, r < 5760)

/-- An update that leaves the three hinges alone keeps their ranges. -/
theorem Hae.inRange.of_same {h h' : Hae} (range : h.inRange) (tracked : h'.tracked = h.tracked)
    (reported : h'.reported = h.reported) (raw : h'.raw = h.raw) : h'.inRange := by
  unfold Hae.inRange
  rwa [tracked, reported, raw]

theorem takeSample_inRange (p : Sample) {s : State} (range : s.hae.inRange) : (takeSample p s).hae.inRange := by
  unfold takeSample
  split
  · exact range.of_same rfl rfl rfl
  · exact range.of_same rfl rfl rfl

theorem hingeWork_inRange {h : Hae} (range : h.inRange) : (hingeWork h).inRange := by
  obtain ⟨tracked, reported, raw⟩ := range
  have raw' : ∀ r ∈ some (rawHinge h), r < 5760 := by simpa using rawHinge_lt h
  have tracked' : ∀ t ∈ some (track h (rawHinge h)), t ≤ 5760 := by
    simpa using track_le h (rawHinge_lt h).le
  unfold hingeWork
  split
  · exact ⟨by simp, reported, by simp⟩
  · exact ⟨tracked, reported, raw'⟩
  · exact ⟨tracked', reported, raw'⟩
  · exact ⟨tracked', reported, raw'⟩
  · exact ⟨tracked, reported, raw⟩
  · exact ⟨tracked, reported, raw⟩
  · exact ⟨tracked, reported, raw⟩

theorem updateReported_inRange {s : State} (range : s.hae.inRange) : (updateReported s).hae.inRange := by
  obtain ⟨tracked, reported, raw⟩ := range
  exact ⟨tracked, reportHinge_le _ _ _ tracked reported, raw⟩

theorem review_inRange (before : Hae) {s : State} (range : s.hae.inRange) : (review before s).hae.inRange := by
  refine updateReported_inRange (s := updateFace (reviewQuality s)) ?_
  rw [reviewQuality_eq]
  obtain ⟨tracked, reported, raw⟩ := range
  refine ⟨?_, reported, ?_⟩
  · simp only [updateFace, State.setHae_hae]
    split <;> simp_all
  · simp only [updateFace, State.setHae_hae]
    split <;> simp_all

theorem hallCase_inRange (noBase : Bool) (hall : Hall) (asserted : Bool) {h : Hae} (range : h.inRange) :
    (hallCase noBase hall asserted h).inRange := by
  have range' := range
  obtain ⟨tracked, reported, raw⟩ := range
  have restricted : ∀ t ∈ (h.raw.map (hallRow hall)).or h.tracked, t ≤ 5760 := by
    cases hr : h.raw with
    | none => simpa using tracked
    | some r => simpa using hallRow_le hall (raw r hr).le
  unfold hallCase
  split
  · exact range'
  split
  · split
    · exact ⟨tracked, reported, raw⟩
    · exact range'
  split
  · exact range'
  split
  · exact ⟨anchor_le hall _ tracked, reported, raw⟩
  · exact ⟨anchor_le hall _ tracked, reported, raw⟩
  · exact ⟨restricted, reported, raw⟩
  · exact ⟨restricted, reported, raw⟩
  · exact ⟨restricted, reported, raw⟩
  · exact range'
  · exact range'

theorem apply_inRange (v : Int) {s : State} (p : Param) (range : s.hae.inRange) : (p.apply v s).hae.inRange := by
  have untouched (h : (p.apply v s).hae = s.hae) : (p.apply v s).hae.inRange := h.symm ▸ range
  cases p with
  | filterShift => exact range.of_same rfl rfl rfl
  | motionThreshold => exact range.of_same rfl rfl rfl
  | motionIsActivity => exact range.of_same rfl rfl rfl
  | projectionMin => exact range.of_same rfl rfl rfl
  | hingeCal => exact range.of_same rfl rfl rfl
  | hingeDeadband => exact range.of_same rfl rfl rfl
  | faceT => exact range.of_same rfl rfl rfl
  | _ => exact untouched (by simp [Param.apply, recomputeDraw_eq, supplyEvent_eq, setIdleTimeout, setBusyOn, setBusyOff])

theorem execFreshnessTimerExpiry_inRange {sensor : Sensor} {s t : State} (range : s.hae.inRange)
    (h : execFreshnessTimerExpiry sensor s = .next t) : t.hae.inRange := by
  cases sensor with
  | lid =>
    simp only [execFreshnessTimerExpiry] at h
    split at h
    · cases h; exact range
    split at h
    · cases h; exact range.of_same rfl rfl rfl
    · cases h; exact review_inRange s.hae (s := s.setHae _) (range.of_same rfl rfl rfl)
  | base =>
    simp only [execFreshnessTimerExpiry] at h
    split at h
    · cases h; exact range
    split at h
    · cases h; exact range.of_same rfl rfl rfl
    · cases h; exact review_inRange s.hae (s := s.setHae _) (range.of_same rfl rfl rfl)

/-- The commands that reach the engine keep its ranges. -/
theorem exec_hinge_inRange {c : Instr} {s t : State} (touching : .hae ∈ touches c) (range : s.hae.inRange)
    (h : exec c s = .next t) : t.hae.inRange := by
  cases c
  case computation p =>
    cases h
    have sampled : (takeSample p (s.took (.computation p))).hae.inRange := takeSample_inRange p range
    have worked : (decideAndWork (takeSample p (s.took (.computation p)))).hae.inRange :=
      hingeWork_inRange (sampled.of_same rfl rfl rfl)
    exact updateReported_inRange (s := updateFace _) worked
  case lidFilterClear =>
    cases h
    refine review_inRange _ ?_
    exact range.of_same rfl rfl rfl
  case baseInvalidation =>
    cases h
    refine review_inRange _ ?_
    exact range.of_same rfl rfl rfl
  case portStateDelivery =>
    cases h
    refine review_inRange _ ?_
    exact range.of_same rfl rfl rfl
  case haeDockStateDelivery =>
    cases h
    refine review_inRange _ ?_
    exact range.of_same rfl rfl rfl
  case freshnessTimerExpiry sensor => exact execFreshnessTimerExpiry_inRange range h
  case haeHallEvent hall asserted time =>
    cases h
    have recorded : (s.hae.recordHall hall asserted).inRange := by
      cases hall <;> exact range.of_same rfl rfl rfl
    refine updateReported_inRange ?_
    exact hallCase_inRange _ hall asserted recorded
  case setParam tag id value =>
    obtain ⟨_, _, _, _, rfl⟩ | ⟨p, _, _, _, _, rfl⟩ := exec_setParam_cases h
    · rwa [answer_hae]
    · rw [answer_hae]
      exact apply_inRange _ p range
  all_goals simp [touches] at touching

/-- Settles O10: the ranges hold after a reset, and each step of the engine computes its hinges within them. -/
theorem hingeRangeKept : Obligations.HingeRangeKept := by
  refine step_keeps [.hae] (fun s t same range => ?_) (fun t reset => reset.hinge) (fun c s t touched range h => ?_)
  · have hae : t.hae = s.hae := same .hae (by simp)
    exact (hae ▸ range : t.hae.inRange)
  · obtain ⟨b, hb, touching⟩ := touched
    obtain rfl : b = .hae := by simpa using hb
    exact exec_hinge_inRange touching range h

end Sys2Proof.Machine
end

-- PROOFS: dwell timers, the wake, BUSY and the coil (chapters 4, 5, 8, 9 and 11; O11, O12).
section

namespace Sys2Proof.Machine

/-! ### Dwell timers run with candidates (4.1, 5.2) -/

/-- The rotation dwell timer runs exactly while there is a candidate. -/
def RotUnit.paired (u : RotUnit) : Prop := u.candidate.isSome ↔ u.timer.isRunning

/-- The posture dwell timer runs exactly while there is a candidate. -/
def Pcl.paired (p : Pcl) : Prop := p.candidate.isSome ↔ p.timer.isRunning

/-- An update that leaves the candidate and the timer alone keeps the pair. -/
theorem RotUnit.paired.of_same {u u' : RotUnit} (h : u.paired) (candidate : u'.candidate = u.candidate)
    (timer : u'.timer = u.timer) : u'.paired := by
  unfold RotUnit.paired
  rwa [candidate, timer]

theorem Pcl.paired.of_same {p p' : Pcl} (h : p.paired) (candidate : p'.candidate = p.candidate)
    (timer : p'.timer = p.timer) : p'.paired := by
  unfold Pcl.paired
  rwa [candidate, timer]

/-- A cancelled candidate has a cancelled timer. -/
theorem RotUnit.paired_of_cancelled {u : RotUnit} (candidate : u.candidate = none) (timer : u.timer = .cancelled) :
    u.paired := by
  simp [RotUnit.paired, candidate, timer]

theorem Pcl.paired_of_cancelled {p : Pcl} (candidate : p.candidate = none) (timer : p.timer = .cancelled) : p.paired := by
  simp [Pcl.paired, candidate, timer]

theorem applyDecision_paired (found : Option Rot) {s : State} (h : s.rot.paired) : (applyDecision found s).rot.paired := by
  cases found with
  | none => exact RotUnit.paired_of_cancelled rfl rfl
  | some k =>
    simp only [applyDecision, startCandidate]
    split
    · exact h
    split
    · exact RotUnit.paired_of_cancelled rfl rfl
    · simp [RotUnit.paired]

theorem decideRotation_paired (v : Vec3) {s : State} (h : s.rot.paired) : (decideRotation v s).rot.paired := by
  simp only [decideRotation]
  split
  · exact applyDecision_paired _ (h.of_same rfl rfl)
  · exact RotUnit.paired_of_cancelled rfl rfl

theorem forceRotation_paired {s : State} (h : s.rot.paired) : (forceRotation s).rot.paired := by
  unfold forceRotation
  split
  · exact h
  · exact h.of_same rfl rfl

theorem startPosture_paired (i : Nat) (s : State) : (startPosture i s).pcl.paired := by
  unfold startPosture
  split
  · exact Pcl.paired_of_cancelled rfl rfl
  · simp [Pcl.paired]

theorem candidateCase_paired (i : Nat) {s : State} (h : s.pcl.paired) : (candidateCase i s).pcl.paired := by
  cases hc : s.pcl.candidate with
  | none =>
    simp only [candidateCase, hc]
    exact startPosture_paired i s
  | some c =>
    simp only [candidateCase, hc]
    split
    · simpa [Pcl.paired, hc] using h
    · exact startPosture_paired i s

theorem samePosture_paired (i : Nat) (s : State) : (samePosture i s).pcl.paired := by
  simp only [samePosture]
  split
  · exact Pcl.paired_of_cancelled rfl rfl
  · exact Pcl.paired_of_cancelled rfl rfl

theorem evaluate_paired {s : State} (h : s.pcl.paired) : (evaluate s).pcl.paired := by
  cases found : matchedRow s.pcl with
  | none =>
    rw [evaluate_of_noMatch found]
    exact Pcl.paired_of_cancelled rfl rfl
  | some i =>
    rw [evaluate_of_match found]
    split
    · exact samePosture_paired i _
    · exact candidateCase_paired i (h.of_same rfl rfl)

theorem commitPostures_paired (s : State) : (commitPostures s).pcl.paired :=
  evaluate_paired (Pcl.paired_of_cancelled rfl rfl)

theorem apply_rot_paired (v : Int) {s : State} (p : Param) (h : s.rot.paired) : (p.apply v s).rot.paired := by
  have untouched (same : (p.apply v s).rot = s.rot) : (p.apply v s).rot.paired := same.symm ▸ h
  cases p with
  | rotMin => exact h.of_same rfl rfl
  | rotHyst => exact h.of_same rfl rfl
  | rotDwell => exact h.of_same rfl rfl
  | _ => exact untouched (by simp [Param.apply, recomputeDraw_eq, supplyEvent_eq, setIdleTimeout, setBusyOn, setBusyOff])

theorem execPolicyDelivery_paired {policy : Policy} {acceptance : Bool} {s t : State} (h : s.rot.paired)
    (ended : execPolicyDelivery policy acceptance s = .next t) : t.rot.paired := by
  cases policy with
  | free => cases ended; exact h.of_same rfl rfl
  | hold => cases ended; exact RotUnit.paired_of_cancelled rfl rfl
  | forceRot0 =>
    cases ended
    split
    · exact forceRotation_paired (RotUnit.paired_of_cancelled rfl rfl)
    · exact RotUnit.paired_of_cancelled rfl rfl

/-- The commands that reach the rotation unit keep its timer with its candidate. -/
theorem exec_rot_paired {c : Instr} {s t : State} (touching : .rot ∈ touches c) (h : s.rot.paired)
    (ended : exec c s = .next t) : t.rot.paired := by
  cases c
  case lidVectorDelivery v =>
    cases ended
    split
    · exact decideRotation_paired v h
    · exact h
  case noVector => cases ended; exact RotUnit.paired_of_cancelled rfl rfl
  case policyDelivery policy acceptance => exact execPolicyDelivery_paired h ended
  case rotationDwellExpiry =>
    have ended : execRotationDwellExpiry s = .next t := ended
    unfold execRotationDwellExpiry at ended
    split at ended
    · split at ended
      · cases ended; exact RotUnit.paired_of_cancelled rfl rfl
      · cases ended; exact h
    · cases ended; exact h
  case setRotationLock tag lock =>
    have ended : execSetRotationLock tag lock s = .next t := ended
    unfold execSetRotationLock at ended
    dsimp only at ended
    split at ended
    · cases ended
      rw [answerOk_eq, answer_rot]
      exact RotUnit.paired_of_cancelled rfl rfl
    split at ended
    · cases ended
      rw [answerOk_eq, answer_rot]
      exact h.of_same rfl rfl
    · cases ended
      rwa [answerStatus_eq, answer_rot]
  case setParam tag id value =>
    obtain ⟨_, _, _, _, rfl⟩ | ⟨p, _, _, _, _, rfl⟩ := exec_setParam_cases ended
    · rwa [answer_rot]
    · rw [answer_rot]
      exact apply_rot_paired _ p h
  all_goals simp [touches] at touching

/-- The commands that reach the classifier keep its timer with its candidate. -/
theorem exec_pcl_paired {c : Instr} {s t : State} (touching : .pcl ∈ touches c) (h : s.pcl.paired)
    (ended : exec c s = .next t) : t.pcl.paired := by
  cases c
  case hingeDelivery => cases ended; exact evaluate_paired (h.of_same rfl rfl)
  case pclDockStateDelivery => cases ended; exact evaluate_paired (h.of_same rfl rfl)
  case pclHallEvent hall asserted time =>
    cases ended
    refine evaluate_paired ?_
    cases hall <;> exact h.of_same rfl rfl
  case postureDwellExpiry =>
    have ended : execPostureDwellExpiry s = .next t := ended
    unfold execPostureDwellExpiry at ended
    split at ended
    · split at ended
      · cases ended; exact Pcl.paired_of_cancelled rfl rfl
      · cases ended; exact h
    · cases ended; exact h
  case commitPosture tag =>
    have ended : execCommitPosture tag s = .next t := ended
    unfold execCommitPosture at ended
    dsimp only at ended
    split at ended
    · cases ended
      rw [answerOk_eq, answer_pcl]
      exact commitPostures_paired _
    · cases ended
      rwa [answerStatus_eq, answer_pcl]
  case clearNoMatch tag =>
    cases ended
    rw [answerOk_eq, answer_pcl]
    exact h.of_same rfl rfl
  case writeRowsPosture tag start count rows =>
    cases ended
    obtain ⟨_, _, _, _, same⟩ | ⟨rs, _, _, _, _, -, written⟩ := answerRows_cases (.writeRowsPosture tag start count rows) tag
      (checkRows readPostureRow 23 16 start count rows)
      (fun rs s => s.setPcl { s.pcl with pending := replaceRows s.pcl.pending start.toNat rs }) (s.took _)
    · rw [same, answer_pcl]
      exact h
    · rw [written, answer_pcl]
      exact h.of_same rfl rfl
  all_goals simp [touches] at touching

theorem dwellsPaired_kept : ∀ s t : State, dwellsPaired s → step s = .next t → dwellsPaired t := by
  refine step_keeps [.rot, .pcl] (fun s t same paired => ?_) (fun t reset => reset.dwells)
    (fun c s t _ paired ended => ?_)
  · have rot : t.rot = s.rot := same .rot (by simp)
    have pcl : t.pcl = s.pcl := same .pcl (by simp)
    unfold dwellsPaired
    rwa [rot, pcl]
  · obtain ⟨rot, pcl⟩ := paired
    obtain ⟨t', ended', stayed | ⟨values, -⟩⟩ := exec_ends c s
    · obtain rfl : t' = t := by rw [ended] at ended'; cases ended'; rfl
      constructor
      · by_cases touching : .rot ∈ touches c
        · exact exec_rot_paired touching rot ended
        · have same : t'.rot = s.rot := stayed.1 .rot touching
          rwa [same]
      · by_cases touching : .pcl ∈ touches c
        · exact exec_pcl_paired touching pcl ended
        · have same : t'.pcl = s.pcl := stayed.1 .pcl touching
          rwa [same]
    · obtain rfl : t' = t := by rw [ended] at ended'; cases ended'; rfl
      exact values.dwells

/-! ### The wake and the advice (9.1) -/

/-- The bounds of 9.1, on the arbiter alone. -/
def Swa.consistent (a : Swa) : Prop :=
  (a.wakeRaised = true ↔ a.wakeSet ≠ 0) ∧ (a.platform = .asleep → a.advice = none)

/-- An update of timers, class and parameters keeps the arbiter consistent. -/
theorem Swa.consistent.of_same {a a' : Swa} (h : a.consistent) (raised : a'.wakeRaised = a.wakeRaised)
    (set : a'.wakeSet = a.wakeSet) (platform : a'.platform = a.platform) (advice : a'.advice = a.advice) :
    a'.consistent := by
  unfold Swa.consistent
  rwa [raised, set, platform, advice]

theorem WakeReason.bit_ne_zero (r : WakeReason) : r.bit ≠ 0 := by
  cases r <;> decide

theorem withdraw_consistent (cause : WithdrawCause) {s : State} (h : s.swa.consistent) :
    (withdraw cause s).swa.consistent := by
  rw [withdraw_eq]
  exact ⟨h.1, fun _ => rfl⟩

theorem activity_consistent (a : Activity) {s : State} (h : s.swa.consistent) : (activity a s).swa.consistent := by
  rw [activity_eq]
  obtain ⟨wake, quiet⟩ := h
  refine ⟨wake, fun asleep => ?_⟩
  have asleep : s.swa.platform = .asleep := asleep
  simp [asleep, quiet asleep]

theorem wakeFor_consistent (r : WakeReason) {s : State} (h : s.swa.consistent) : (wakeFor r s).swa.consistent := by
  rw [wakeFor_eq]
  refine ⟨?_, h.2⟩
  have stands : s.swa.wakeSet ||| r.bit ≠ 0 := fun zero => r.bit_ne_zero (BitVec.or_eq_zero_iff.mp zero).2
  simpa using stands

theorem wakeClass_consistent (r : WakeReason) {s : State} (h : s.swa.consistent) : (wakeClass r s).swa.consistent := by
  simp only [wakeClass]
  split
  · exact wakeFor_consistent r (h.of_same rfl rfl rfl rfl)
  · exact h.of_same rfl rfl rfl rfl

theorem advise_consistent (reason : AdviceReason) {s : State} (h : s.swa.consistent) (awake : s.swa.platform = .awake) :
    (advise reason s).swa.consistent := by
  refine ⟨h.1, fun asleep => ?_⟩
  have asleep : s.swa.platform = .asleep := asleep
  simp [awake] at asleep

theorem closedHoldAct_consistent {s : State} (h : s.swa.consistent) : (closedHoldAct s).swa.consistent := by
  unfold closedHoldAct
  split
  · next awake _ => exact advise_consistent _ h awake
  · next awake _ => exact advise_consistent _ h awake
  · exact h

theorem holdStep_consistent (old new : SleepClass) {s : State} (h : s.swa.consistent) :
    (holdStep old new s).swa.consistent := by
  unfold holdStep
  repeat' split
  · exact h
  · exact h.of_same rfl rfl rfl rfl
  · exact h.of_same rfl rfl rfl rfl
  · exact h

theorem classLeft_consistent (old new : SleepClass) {s : State} (h : s.swa.consistent) :
    (classLeft old new s).swa.consistent := by
  have left : (if old = .closed ∧ new ≠ .closed then s.setSwa { s.swa with holdTimer := .cancelled } else s).swa.consistent := by
    split
    · exact h.of_same rfl rfl rfl rfl
    · exact h
  simp only [classLeft]
  generalize (if old = .closed ∧ new ≠ .closed then s.setSwa { s.swa with holdTimer := .cancelled } else s) = u at left ⊢
  split
  · exact withdraw_consistent _ left
  · exact left

theorem execAcceptanceNotice_consistent {old new : SleepClass} {s t : State} (h : s.swa.consistent)
    (ended : execAcceptanceNotice old new s = .next t) : t.swa.consistent := by
  have opened : (if old = .closed ∧ new ≠ .closed then wakeClass .lidOpened (s.took (.acceptanceNotice old new))
      else s.took (.acceptanceNotice old new)).swa.consistent := by
    split
    · exact wakeClass_consistent _ h
    · exact h
  simp only [execAcceptanceNotice] at ended
  generalize (if old = .closed ∧ new ≠ .closed then wakeClass .lidOpened (s.took (.acceptanceNotice old new))
      else s.took (.acceptanceNotice old new)) = u at opened ended
  have accepted : (activity .posture (holdStep old new (u.setSwa { u.swa with cls := new }))).swa.consistent :=
    activity_consistent _ (holdStep_consistent _ _ (opened.of_same rfl rfl rfl rfl))
  cases ended
  split
  · exact closedHoldAct_consistent accepted
  · exact accepted

theorem execSleepClassChange_consistent {cls : SleepClass} {s t : State} (h : s.swa.consistent)
    (ended : execSleepClassChange cls s = .next t) : t.swa.consistent := by
  have left := classLeft_consistent s.swa.cls cls
    (s := (s.took (.sleepClassChange cls)).setSwa { s.swa with cls := cls }) (h.of_same rfl rfl rfl rfl)
  cases ended
  split
  · exact left.of_same rfl rfl rfl rfl
  · exact left

theorem execIdleTimerExpiry_consistent {s t : State} (h : s.swa.consistent) (ended : execIdleTimerExpiry s = .next t) :
    t.swa.consistent := by
  simp only [execIdleTimerExpiry] at ended
  split at ended
  · split at ended
    · next advised =>
      cases ended
      exact advise_consistent .idle (s := s.setSwa _) (h.of_same rfl rfl rfl rfl) advised.1
    · cases ended
      exact h.of_same rfl rfl rfl rfl
  · cases ended
    exact h

theorem declareAsleep_consistent {s : State} (h : s.swa.consistent) : (declareAsleep s).swa.consistent := by
  have declared : (s.setSwa { s.swa with platform := .asleep, advice := none }).swa.consistent := ⟨h.1, fun _ => rfl⟩
  simp only [declareAsleep, State.emits_swa]
  split
  · exact wakeFor_consistent _ declared
  · exact declared

theorem apply_consistent (v : Int) {s : State} (p : Param) (h : s.swa.consistent) : (p.apply v s).swa.consistent := by
  have untouched (same : (p.apply v s).swa = s.swa) : (p.apply v s).swa.consistent := same.symm ▸ h
  cases p with
  | idleTimeout => exact h.of_same rfl rfl rfl rfl
  | closedHold => exact h.of_same rfl rfl rfl rfl
  | wakeGuard => exact h.of_same rfl rfl rfl rfl
  | wakeMask => exact h.of_same rfl rfl rfl rfl
  | _ => exact untouched (by simp [Param.apply, recomputeDraw_eq, supplyEvent_eq, setBusyOn, setBusyOff])

/-- The commands that reach the arbiter keep it consistent. -/
theorem exec_swa_consistent {c : Instr} {s t : State} (touching : .swa ∈ touches c) (h : s.swa.consistent)
    (ended : exec c s = .next t) : t.swa.consistent := by
  cases c
  case keyOccurrence => cases ended; exact activity_consistent _ (wakeClass_consistent _ h)
  case pointerOccurrence => cases ended; exact activity_consistent _ (wakeClass_consistent _ h)
  case dockAttach => cases ended; exact activity_consistent _ (wakeClass_consistent _ h)
  case dockDetach => cases ended; exact activity_consistent _ (wakeClass_consistent _ h)
  case rotationOccurrence => cases ended; exact activity_consistent _ h
  case penInsertedOccurrence => cases ended; exact activity_consistent _ (wakeClass_consistent _ h)
  case penRemovedOccurrence => cases ended; exact activity_consistent _ (wakeClass_consistent _ h)
  case lidMotionOccurrence isActivity =>
    cases ended
    have moved := wakeClass_consistent .motion (s := s.took (.lidMotionOccurrence isActivity)) h
    cases isActivity
    · exact moved
    · exact activity_consistent _ moved
  case acceptanceNotice => exact execAcceptanceNotice_consistent h ended
  case sleepClassChange => exact execSleepClassChange_consistent h ended
  case idleTimerExpiry => exact execIdleTimerExpiry_consistent h ended
  case closedHoldExpiry =>
    have ended : execClosedHoldExpiry s = .next t := ended
    simp only [execClosedHoldExpiry] at ended
    split at ended
    · cases ended
      exact closedHoldAct_consistent (h.of_same rfl rfl rfl rfl)
    · cases ended
      exact h
  case setPlatformStateAsleep =>
    cases ended
    rw [answerOk_eq, answer_swa]
    exact declareAsleep_consistent h
  case setPlatformStateAwake =>
    cases ended
    rw [answerOk_eq, answer_swa]
    exact ⟨by simp [declareAwake, startIdle], by simp [declareAwake, startIdle]⟩
  case setParam tag id value =>
    obtain ⟨_, _, _, _, rfl⟩ | ⟨p, _, _, _, _, rfl⟩ := exec_setParam_cases ended
    · rwa [answer_swa]
    · rw [answer_swa]
      exact apply_consistent _ p h
  all_goals simp [touches] at touching

theorem sleepConsistent_kept : ∀ s t : State, sleepConsistent s → step s = .next t → sleepConsistent t := by
  refine step_keeps [.swa] (fun s t same h => ?_) (fun t reset => reset.sleep) (fun c s t touched h ended => ?_)
  · have swa : t.swa = s.swa := same .swa (by simp)
    unfold sleepConsistent
    rwa [swa]
  · obtain ⟨b, hb, touching⟩ := touched
    obtain rfl : b = .swa := by simpa using hb
    exact exec_swa_consistent touching h ended

end Sys2Proof.Machine
end

-- PROOFS: what every command keeps of the host link's queue and BUSY (chapter 11).
section

namespace Sys2Proof.Machine

/-! ### Invariants of the host link -/

/-- A property of the host link that reads its queue, BUSY and the two thresholds alone, and is kept when a frame joins a
queue with room, when the head leaves, and when a threshold is set within its range. -/
structure HlmInvariant (Q : Hlm → Prop) : Prop where
  same : ∀ {h h' : Hlm}, Q h → h'.queue = h.queue → h'.busy = h.busy → h'.busyOn = h.busyOn →
    h'.busyOff = h.busyOff → Q h'
  left : ∀ {h : Hlm} (head : HeadState), Q h → Q { h with
    queue := h.queue.tail, head := head
    busy := if h.queue.tail.length ≤ h.busyOff then false else h.busy }
  joined : ∀ {h : Hlm} (f : DownFrame), Q h → h.queue.length < 8 → Q { h with
    queue := h.queue ++ [f]
    busy := if h.busyOn ≤ h.queue.length + 1 then true else h.busy }
  on : ∀ {h : Hlm} {n : Nat}, Q h → 2 ≤ n → n ≤ 8 →
    let h' := { h with busyOn := n, busyOff := min h.busyOff (n - 1) }
    Q { h' with busy := h'.busyJudged }
  off : ∀ {h : Hlm} {n : Nat}, Q h → (1 ≤ h.busyOn → n < h.busyOn) →
    let h' := { h with busyOff := n }
    Q { h' with busy := h'.busyJudged }
  reset : ∀ (fastLink : Bool) (rx : List RxByte) (gapTimer : Timer),
    Q { hlmReset fastLink with rx := rx, gapTimer := gapTimer }

section
variable {Q : Hlm → Prop} (inv : HlmInvariant Q)
include inv

theorem HlmInvariant.takeUp {s : State} (h : Q s.hlm) : Q (takeUp s).hlm := by
  by_cases idle : s.hlm.head = .idle
  · rw [takeUp_of_idle s idle]
    exact inv.same h rfl rfl rfl rfl
  · rwa [takeUp_of_busy s idle]

theorem HlmInvariant.departHead {s : State} (h : Q s.hlm) : Q (departHead s).hlm := by
  rw [departHead_eq]
  exact inv.left _ h

/-- A request answered on a state whose host link is as before. -/
theorem HlmInvariant.answer (c : Instr) (tag code : Byte) (status : Status) (row : Byte) (data : List Byte) {s : State}
    (h : Q s.hlm) : Q (answer c tag code status row data s).hlm := by
  unfold Machine.answer
  dsimp only
  split
  · exact inv.departHead h
  · exact h

theorem HlmInvariant.joinQueue (kindByte : Byte) (f : DownFrame) {s : State} (h : Q s.hlm) :
    Q (joinQueue kindByte f s).hlm := by
  unfold Machine.joinQueue
  dsimp only
  split
  · next room =>
    have joined : Q (s.setHlm { s.hlm with
        queue := s.hlm.queue ++ [f]
        busy := Hlm.busyJoined { s.hlm with queue := s.hlm.queue ++ [f] } }).hlm := by
      simpa [Hlm.busyJoined] using inv.joined f h room
    split
    · exact inv.takeUp joined
    · exact joined
  · exact inv.same h rfl rfl rfl rfl

theorem HlmInvariant.applyRx (e : RxEvent) {s : State} (h : Q s.hlm) : Q (applyRx s e).hlm := by
  cases e with
  | discard f => cases f <;> exact inv.same h rfl rfl rfl rfl
  | frame kindByte f => exact inv.joinQueue kindByte f h

theorem HlmInvariant.foldl_applyRx (events : List RxEvent) {s : State} (h : Q s.hlm) :
    Q (events.foldl Machine.applyRx s).hlm := by
  induction events generalizing s with
  | nil => exact h
  | cons e events ih => exact ih (inv.applyRx e h)

theorem HlmInvariant.receive (rx : List RxByte) {s : State} (h : Q s.hlm) : Q (receive rx s).hlm :=
  inv.foldl_applyRx _ (inv.same (h := s.hlm) h rfl rfl rfl rfl)

theorem HlmInvariant.handItem (item : List Byte) {s : State} (h : Q s.hlm) : Q (handItem item s).hlm := by
  have hlm : (takeItem item s).hlm = s.hlm := (takeItem_kept item s).stays.1 .hlm (by simp)
  have taken : Q (takeItem item s).hlm := by rwa [hlm]
  unfold Machine.handItem
  dsimp only
  split
  · split
    · exact inv.departHead taken
    · exact taken
  · split
    · exact inv.same h rfl rfl rfl rfl
    · exact h

theorem HlmInvariant.upstream {s t : State} (only : upstreamOnly s t) (h : Q s.hlm) : Q t.hlm := by
  obtain ⟨u, lost, rfl⟩ := only
  exact inv.same h rfl rfl rfl rfl

theorem HlmInvariant.restarted {t : State} (h : restarted t) : Q t.hlm := by
  obtain ⟨-, -, -, -, -, -, -, fastLink, rx, gapTimer, hlm⟩ := h
  rw [hlm]
  exact inv.reset fastLink rx gapTimer

/-- Upstream steps and the loss report they may leave. -/
theorem HlmInvariant.settled {s t : State} (only : upstreamOnly s t) (h : Q s.hlm) : Q (settleLoss t).hlm := by
  obtain only' | reset := only.settled
  · exact inv.upstream only' h
  · exact inv.restarted reset.1

end

/-- A clamped value lies within its bounds. -/
theorem clampInt_mem {lo hi : Int} (h : lo ≤ hi) (v : Int) : lo ≤ clampInt lo hi v ∧ clampInt lo hi v ≤ hi := by
  unfold clampInt
  split_ifs <;> omega

theorem HlmInvariant.apply {Q : Hlm → Prop} (inv : HlmInvariant Q) (v : Int) (c : Instr) {s : State} (p : Param)
    (h : Q s.hlm) : Q (p.apply (p.clamp s v) (s.took c)).hlm := by
  have untouched (same : (p.apply (p.clamp s v) (s.took c)).hlm = s.hlm) :
      Q (p.apply (p.clamp s v) (s.took c)).hlm := same.symm ▸ h
  cases p with
  | busyOn =>
    have range := clampInt_mem (lo := 2) (hi := 8) (by decide) v
    have clamp : Param.busyOn.clamp s v = clampInt 2 8 v := rfl
    exact inv.on h (by omega) (by omega)
  | busyOff =>
    have clamp : Param.busyOff.clamp s v = clampInt 0 ((s.hlm.busyOn : Int) - 1) v := rfl
    refine inv.off h fun positive => ?_
    have positive : 1 ≤ s.hlm.busyOn := positive
    rw [State.took_hlm]
    have range := clampInt_mem (lo := 0) (hi := (s.hlm.busyOn : Int) - 1) (by omega) v
    omega
  | _ => exact untouched (by simp [Param.apply, recomputeDraw_eq, supplyEvent_eq, setIdleTimeout])

/-! ### The answers of the requests -/

/-- The command ends in the answer to a request, given on a state whose host link is as before. -/
def answersOn (c : Instr) (s : State) : Prop :=
  ∃ (u : State) (tag code : Byte) (status : Status) (row : Byte) (data : List Byte),
    exec c s = .next (answer c tag code status row data u) ∧ u.hlm = s.hlm

/-- The owner's rule leaves the host link alone. -/
theorem kept.answersOn {touched : List Block} {c : Instr} {s u : State} {tag code : Byte} {status : Status} {row : Byte}
    {data : List Byte} (ended : exec c s = .next (Machine.answer c tag code status row data u))
    (h : kept touched (s.took c) u) (hlm : .hlm ∉ touched) : answersOn c s :=
  ⟨u, tag, code, status, row, data, ended, h.stays.1 .hlm hlm⟩

theorem answersOn_rows {α : Type} {touched : List Block} {c : Instr} {s : State} {tag : Byte} {found : RowCheck α}
    {write : List α → State → State} (ended : exec c s = .next (answerRows c tag found write (s.took c)))
    (h : ∀ rs u, kept touched u (write rs u)) (hlm : .hlm ∉ touched) : answersOn c s := by
  obtain ⟨_, _, _, _, given⟩ | ⟨rs, _, _, _, _, -, given⟩ := answerRows_cases c tag found write (s.took c)
  · exact ⟨_, _, _, _, _, _, ended.trans (congrArg _ given), rfl⟩
  · exact ⟨_, _, _, _, _, _, ended.trans (congrArg _ given), (h rs _).stays.1 .hlm hlm⟩

/-- The requests whose owner's rule leaves the host link alone. -/
def plainRequest : Instr → Bool
  | .portOff _ _ | .restartPortLid _ | .writeRowsMountLid _ _ _ _ | .restartPortDock _ | .clearDockError _
  | .writeRowsMountBase _ _ _ _ | .setRotationLock _ _ | .commitPosture _ | .clearNoMatch _ | .writeRowsPosture _ _ _ _
  | .setLine _ _ _ | .writeRowsAction _ _ _ _ | .clearCharger _ | .commitProfile _ | .writeRowsProfile _ _ _ _
  | .setPlatformStateAsleep _ | .setPlatformStateAwake _ | .writeRowsRoute _ _ _ _ | .requestUnknownCode _ _
  | .identify _ | .getStatus _ _ | .getParam _ _ | .readRows _ _ _ _ _ => true
  | _ => false

theorem setLine_answersOn (tag line level : Byte) (s : State) : answersOn (.setLine tag line level) s := by
  have arm : exec (.setLine tag line level) s = execSetLine tag line level s := rfl
  cases read : readFlag level with
  | none => exact ⟨s.took (.setLine tag line level), tag, 0x0A, .badRequest, 0xFF, [], by simp [arm, execSetLine, read], rfl⟩
  | some on =>
    by_cases inRange : line.toNat < 4
    · exact ⟨putLine line.toNat ((s.alu.get line.toNat).request on) (s.took (.setLine tag line level)), tag, 0x0A, .ok, 0xFF, [],
        by simp [arm, execSetLine, read, inRange], (putLine_kept _ _ _).stays.1 .hlm (by simp)⟩
    · exact ⟨s.took (.setLine tag line level), tag, 0x0A, .badIndex, 0xFF, [], by simp [arm, execSetLine, read, inRange], rfl⟩

theorem getStatus_answersOn (tag sect : Byte) (s : State) : answersOn (.getStatus tag sect) s := by
  have arm : exec (.getStatus tag sect) s = execGetStatus tag sect s := rfl
  cases found : statusSection (s.took (.getStatus tag sect)) sect.toNat with
  | none => exact ⟨s.took (.getStatus tag sect), tag, 0x02, .badIndex, 0xFF, [], by simp [arm, execGetStatus, found], rfl⟩
  | some data => exact ⟨(s.took (.getStatus tag sect)).freeUsed, tag, 0x02, .ok, 0xFF, data, by simp [arm, execGetStatus, found], rfl⟩

theorem getParam_answersOn (tag id : Byte) (s : State) : answersOn (.getParam tag id) s := by
  have arm : exec (.getParam tag id) s = execGetParam tag id s := rfl
  cases found : paramOf id with
  | none => exact ⟨s.took (.getParam tag id), tag, 0x04, .badIndex, 0xFF, [], by simp [arm, execGetParam, found], rfl⟩
  | some p => exact ⟨s.took (.getParam tag id), tag, 0x04, .ok, 0xFF, _, by simp only [arm, execGetParam, found]; rfl, rfl⟩

theorem readRows_answersOn (tag table bank start count : Byte) (s : State) :
    answersOn (.readRows tag table bank start count) s := by
  have arm : exec (.readRows tag table bank start count) s = execReadRows tag table bank start count s := rfl
  cases found : tableShape table.toNat with
  | none => exact ⟨s.took (.readRows tag table bank start count), tag, 0x06, .badRequest, 0xFF, [], by simp [arm, execReadRows, found], rfl⟩
  | some shape =>
    by_cases covered : shape.covers bank.toNat start.toNat count.toNat = true
    · exact ⟨(s.took (.readRows tag table bank start count)).freeUsed, tag, 0x06, .ok, 0xFF, _, by simp only [arm, execReadRows, found, if_pos covered]; rfl, rfl⟩
    · exact ⟨s.took (.readRows tag table bank start count), tag, 0x06, .badIndex, 0xFF, [], by simp [arm, execReadRows, found, covered], rfl⟩

theorem exec_answersOn {c : Instr} (plain : plainRequest c = true) (s : State) : answersOn c s := by
  cases c
  case portOff tag port =>
    by_cases lid : port = 0
    · exact kept.answersOn (if_pos lid) (turnOff_kept _) (by simp)
    · exact kept.answersOn (if_neg lid) (kept_refl [] _) (by simp)
  case restartPortLid tag => exact kept.answersOn rfl (kept_lsp _ _ _) (by simp)
  case writeRowsMountLid => exact answersOn_rows rfl writeMountLid_kept (by simp)
  case restartPortDock tag =>
    by_cases live : s.dlc.state.live = true
    · exact kept.answersOn (if_pos live) (restartDock_kept _) (by simp)
    · exact kept.answersOn (if_neg live) (kept_refl [] _) (by simp)
  case clearDockError tag => exact kept.answersOn rfl (kept_setDlc _ _) (by simp)
  case writeRowsMountBase => exact answersOn_rows rfl writeMountBase_kept (by simp)
  case setRotationLock tag lock =>
    by_cases on : lock = 1
    · exact kept.answersOn (if_pos on) (kept_setRot _ _) (by simp)
    by_cases off : lock = 0
    · exact kept.answersOn ((if_neg on).trans (if_pos off)) (kept_setRot _ _) (by simp)
    · exact kept.answersOn ((if_neg on).trans (if_neg off)) (kept_refl [] _) (by simp)
  case commitPosture tag =>
    by_cases some : s.pcl.pending.any PostureRow.inUse = true
    · exact kept.answersOn (if_pos some) (commitPostures_kept _) (by simp)
    · exact kept.answersOn (if_neg some) (kept_refl [] _) (by simp)
  case clearNoMatch tag => exact kept.answersOn rfl (kept_setPcl _ _) (by simp)
  case writeRowsPosture => exact answersOn_rows rfl (fun _ u => kept_setPcl u _) (by simp)
  case setLine tag line level => exact setLine_answersOn tag line level s
  case writeRowsAction => exact answersOn_rows rfl (putLines_kept _) (by simp)
  case clearCharger tag => exact kept.answersOn rfl (clearFault_kept _) (by simp)
  case commitProfile tag => exact kept.answersOn rfl ((kept_setPch _ _).trans (commitProfileState_kept _)) (by simp)
  case writeRowsProfile => exact answersOn_rows rfl (fun _ u => kept_setPch u _) (by simp)
  case setPlatformStateAsleep tag => exact kept.answersOn rfl (declareAsleep_kept _) (by simp)
  case setPlatformStateAwake tag => exact kept.answersOn rfl (kept_swa _ _ _) (by simp)
  case writeRowsRoute => exact answersOn_rows rfl (fun _ u => kept_setUfe u _) (by simp)
  case requestUnknownCode tag payload => exact kept.answersOn rfl (kept_refl [] _) (by simp)
  case identify tag => exact kept.answersOn rfl (kept_refl [] _) (by simp)
  case getStatus tag sect => exact getStatus_answersOn tag sect s
  case getParam tag id => exact getParam_answersOn tag id s
  case readRows tag table bank start count => exact readRows_answersOn tag table bank start count s
  all_goals simp [plainRequest] at plain

/-! ### Every command -/

section
variable {Q : Hlm → Prop} (inv : HlmInvariant Q)
include inv

theorem HlmInvariant.dockRoomNotice {s t : State} (h : Q s.hlm) (ended : execDockRoomNotice s = .next t) : Q t.hlm := by
  simp only [execDockRoomNotice] at ended
  split at ended
  · obtain rfl := Host.Outcome.next.inj ended
    refine inv.handItem _ ?_
    exact h
  · obtain rfl := Host.Outcome.next.inj ended
    exact h

theorem HlmInvariant.frameCompletion {s t : State} (h : Q s.hlm) (ended : execFrameCompletion s = .next t) :
    Q t.hlm := by
  simp only [execFrameCompletion] at ended
  split at ended
  · obtain rfl := Host.Outcome.next.inj ended
    exact h
  · split at ended
    · obtain rfl := Host.Outcome.next.inj ended
      exact inv.restarted (softResetCarriedOut_resetFrom _).1
    · obtain rfl := Host.Outcome.next.inj ended
      exact inv.upstream (tryBegin_upstreamOnly _) (inv.settled (upstreamOnly_setUfe s _) h)

theorem HlmInvariant.columnChange {p : Platform} {s t : State} (h : Q s.hlm) (ended : execColumnChange p s = .next t) :
    Q t.hlm := by
  simp only [execColumnChange] at ended
  split at ended
  · obtain rfl := Host.Outcome.next.inj ended
    exact h
  · obtain rfl := Host.Outcome.next.inj ended
    exact inv.settled (changeColumn_upstreamOnly p (s.took (.columnChange p))) h

theorem HlmInvariant.flushTimerExpiry {st : Stream} {s t : State} (h : Q s.hlm)
    (ended : execFlushTimerExpiry st s = .next t) : Q t.hlm := by
  simp only [execFlushTimerExpiry] at ended
  split at ended
  · obtain rfl := Host.Outcome.next.inj ended
    exact inv.settled (queueBatch_upstreamOnly st _ s) h
  · obtain rfl := Host.Outcome.next.inj ended
    exact h

theorem HlmInvariant.gapTimerExpiry {s t : State} (h : Q s.hlm) (ended : execGapTimerExpiry s = .next t) : Q t.hlm := by
  simp only [execGapTimerExpiry] at ended
  split at ended
  · obtain rfl := Host.Outcome.next.inj ended
    refine inv.receive _ ?_
    exact inv.same h rfl rfl rfl rfl
  · obtain rfl := Host.Outcome.next.inj ended
    exact h

theorem HlmInvariant.softReset {tag : Byte} {s t : State} (h : Q s.hlm) (ended : execSoftReset tag s = .next t) :
    Q t.hlm := by
  simp only [execSoftReset] at ended
  split at ended
  · obtain rfl := Host.Outcome.next.inj ended
    exact inv.left .resetting h
  · obtain rfl := Host.Outcome.next.inj ended
    exact inv.same h rfl rfl rfl rfl

/-- The commands that reach the host link keep its invariants. -/
theorem HlmInvariant.exec {c : Instr} {s t : State} (touching : .hlm ∈ touches c) (h : Q s.hlm)
    (ended : exec c s = .next t) : Q t.hlm := by
  by_cases plain : plainRequest c = true
  · obtain ⟨u, _, _, _, _, _, answered, hlm⟩ := exec_answersOn plain s
    rw [answered] at ended
    obtain rfl := Host.Outcome.next.inj ended
    exact inv.answer _ _ _ _ _ _ (by rwa [hlm])
  cases c
  case dockItemHandover item =>
    obtain rfl := Host.Outcome.next.inj ended
    refine inv.handItem item ?_
    exact h
  case dockRoomNotice => exact inv.dockRoomNotice h ended
  case recordOffer r =>
    obtain rfl := Host.Outcome.next.inj ended
    exact inv.settled (takeOffer_upstreamOnly r (s.took (.recordOffer r))) h
  case flushTimerExpiry st => exact inv.flushTimerExpiry h ended
  case columnChange p => exact inv.columnChange h ended
  case commitRoute tag =>
    obtain rfl := Host.Outcome.next.inj ended
    refine inv.answer _ _ _ _ _ _ ?_
    exact inv.settled (commitRoutes_upstreamOnly (s.took (.commitRoute tag))) h
  case frameCompletion => exact inv.frameCompletion h ended
  case holdChange asserted =>
    obtain rfl := Host.Outcome.next.inj ended
    exact inv.upstream ((upstreamOnly_setUfe s _).trans (tryBegin_upstreamOnly _)) h
  case byteReceived byte stopBit =>
    obtain rfl := Host.Outcome.next.inj ended
    exact inv.receive _ h
  case gapTimerExpiry => exact inv.gapTimerExpiry h ended
  case clearLinkErrors tag =>
    obtain rfl := Host.Outcome.next.inj ended
    refine inv.answer _ _ _ _ _ _ ?_
    exact inv.same h rfl rfl rfl rfl
  case softReset tag => exact inv.softReset h ended
  case setParam tag id value =>
    obtain ⟨_, _, _, _, rfl⟩ | ⟨p, _, _, _, _, rfl⟩ := exec_setParam_cases ended
    · exact inv.answer _ _ _ _ _ _ h
    · exact inv.answer _ _ _ _ _ _ (inv.apply _ _ p h)
  all_goals simp [touches, plainRequest] at touching plain

/-- An invariant of the host link is kept by every step. -/
theorem HlmInvariant.step : ∀ s t : State, Q s.hlm → step s = .next t → Q t.hlm := by
  refine step_keeps (P := fun s => Q s.hlm) [.hlm] (fun s t same h => ?_) (fun t reset => inv.restarted reset)
    (fun c s t touched h ended => ?_)
  · have hlm : t.hlm = s.hlm := same .hlm (by simp)
    exact hlm ▸ h
  · obtain ⟨b, hb, touching⟩ := touched
    obtain rfl : b = .hlm := by simpa using hb
    exact inv.exec touching h ended

end

end Sys2Proof.Machine
end

-- PROOFS: BUSY stands as the queue asks, and the coil is quiet outside PROBE and CHARGING (O11, O12).
section

namespace Sys2Proof.Machine

/-! ### BUSY (R174) -/

/-- The bounds of R174, on the host link alone. -/
def Hlm.consistent (h : Hlm) : Prop :=
  h.busyOff < h.busyOn ∧ 2 ≤ h.busyOn ∧ h.busyOn ≤ 8
  ∧ (h.busyOn ≤ h.queue.length → h.busy = true) ∧ (h.queue.length ≤ h.busyOff → h.busy = false)

/-- BUSY judged anew stands as the queue asks, whatever it was. -/
theorem Hlm.consistent_of_judged {h : Hlm} (below : h.busyOff < h.busyOn) (least : 2 ≤ h.busyOn) (most : h.busyOn ≤ 8) :
    Hlm.consistent { h with busy := h.busyJudged } := by
  refine ⟨below, least, most, fun many => if_pos many, fun few => ?_⟩
  have few : h.queue.length ≤ h.busyOff := few
  have notMany : ¬ h.busyOn ≤ h.queue.length := by omega
  exact (if_neg notMany).trans (if_pos few)

theorem Hlm.consistent_invariant : HlmInvariant Hlm.consistent where
  same := by
    intro h h' c queue busy on off
    unfold Hlm.consistent
    rwa [queue, busy, on, off]
  left := by
    intro h head c
    obtain ⟨below, least, most, asserted, released⟩ := c
    refine ⟨below, least, most, fun many => ?_, fun few => if_pos few⟩
    have many : h.busyOn ≤ h.queue.tail.length := many
    have shorter : h.queue.tail.length ≤ h.queue.length := by simp
    have notFew : ¬ h.queue.tail.length ≤ h.busyOff := by omega
    exact (if_neg notFew).trans (asserted (by omega))
  joined := by
    intro h f c _
    obtain ⟨below, least, most, asserted, released⟩ := c
    have grown : (h.queue ++ [f]).length = h.queue.length + 1 := by simp
    refine ⟨below, least, most, fun many => if_pos (grown ▸ many), fun few => ?_⟩
    have few : (h.queue ++ [f]).length ≤ h.busyOff := few
    have notMany : ¬ h.busyOn ≤ h.queue.length + 1 := by omega
    exact (if_neg notMany).trans (released (by omega))
  on := by
    intro h n _ least most
    refine Hlm.consistent_of_judged ?_ least most
    have lowered : min h.busyOff (n - 1) ≤ n - 1 := Nat.min_le_right _ _
    exact (by omega : min h.busyOff (n - 1) < n)
  off := by
    intro h n c below
    obtain ⟨-, least, most, -, -⟩ := c
    exact Hlm.consistent_of_judged (below (by omega)) least most
  reset := by
    intro fastLink rx gapTimer
    simp [Hlm.consistent, hlmReset]

/-- Settles O11: each of the three is an invariant of the blocks it reads. -/
theorem consistencyKept : Obligations.ConsistencyKept :=
  ⟨dwellsPaired_kept, sleepConsistent_kept, Hlm.consistent_invariant.step⟩

/-! ### The coil (8.2) -/

/-- The states in which the coil is driven. -/
def Pch.driven (p : Pch) : Prop := p.state = .probe ∨ ∃ k, p.state = .charging k

/-- The coil is driven, or neither driven nor staged. -/
def Pch.quiet (p : Pch) : Prop := p.driven ∨ (p.applied = 0 ∧ p.staged = 0)

/-- Between the regulation and the boundary of an interval end the applied duty is the old one: the staged duty decides. -/
def Pch.stagedQuiet (p : Pch) : Prop := p.driven ∨ p.staged = 0

theorem coilQuiet_iff (s : State) : coilQuiet s ↔ s.pch.quiet := by
  simp only [coilQuiet, Pch.quiet, Pch.driven, or_assoc]

theorem Pch.quiet.of_same {p p' : Pch} (h : p.quiet) (state : p'.state = p.state) (applied : p'.applied = p.applied)
    (staged : p'.staged = p.staged) : p'.quiet := by
  unfold Pch.quiet Pch.driven
  rwa [state, applied, staged]

/-- A charger that is not driving keeps its applied duty of 0 into the probe or the pause that it enters. -/
theorem probeOrPause_quiet {s : State} (applied : s.pch.applied = 0) : (probeOrPause s).pch.quiet := by
  rw [probeOrPause_eq]
  dsimp only
  split
  · exact .inr ⟨applied, rfl⟩
  · exact .inl (.inl rfl)

theorem resume_quiet (target : PauseTarget) {s : State} (applied : s.pch.applied = 0) (staged : s.pch.staged = 0) :
    (resume target s).pch.quiet := by
  unfold resume
  split
  · exact .inr ⟨applied, staged⟩
  · cases target with
    | probe => exact .inl (.inl rfl)
    | charging k => exact .inl (.inr ⟨k, rfl⟩)

theorem probeEnd_stagedQuiet {s : State} (h : s.pch.state = .probe) : (probeEnd s).pch.stagedQuiet := by
  unfold probeEnd
  dsimp only
  split
  · exact .inl (.inl h)
  split
  · exact .inl (.inl h)
  split
  · exact .inl (.inr ⟨0, rfl⟩)
  · exact .inr rfl

theorem completeStage_stagedQuiet (k : Nat) (s : State) : (completeStage k s).pch.stagedQuiet := by
  unfold completeStage
  split
  · exact .inl (.inr ⟨k + 1, rfl⟩)
  · exact .inr rfl

theorem regulate_stagedQuiet {k : Nat} {s : State} (h : s.pch.state = .charging k) : (regulate k s).pch.stagedQuiet := by
  unfold regulate
  dsimp only
  split
  · exact completeStage_stagedQuiet k _
  split
  · split
    · exact completeStage_stagedQuiet k _
    · exact .inr rfl
  · exact .inl (.inr ⟨k, h⟩)

/-- The state that a pause target stands for. -/
def PauseTarget.state : PauseTarget → ChargerState
  | .probe => .probe
  | .charging k => .charging k

theorem chargingEnd_stagedQuiet {target : PauseTarget} {s : State} (h : s.pch.state = target.state) :
    (chargingEnd target s).pch.stagedQuiet := by
  unfold chargingEnd
  dsimp only
  generalize (if s.pch.ocLimit < s.pch.lastCurrent then s.pch.ocStreak + 1 else 0) = streak
  split
  · exact .inr rfl
  split
  · cases target <;> exact .inr rfl
  · cases target with
    | probe => exact probeEnd_stagedQuiet h
    | charging k => exact regulate_stagedQuiet h

theorem handleState_stagedQuiet {s : State} (h : s.pch.quiet) : (handleState s).pch.stagedQuiet := by
  unfold handleState
  split
  · next state => exact chargingEnd_stagedQuiet (target := .probe) state
  · next k state => exact chargingEnd_stagedQuiet (target := .charging k) state
  · obtain driven | ⟨-, staged⟩ := h
    · exact .inl driven
    · exact .inr staged

/-- In a state that is not driven, both duties are 0. -/
theorem Pch.quiet.duties {p : Pch} (h : p.quiet) (idle : ¬ p.driven) : p.applied = 0 ∧ p.staged = 0 :=
  h.resolve_left idle

theorem clearFault_quiet {s : State} (h : s.pch.quiet) : (clearFault s).pch.quiet := by
  unfold clearFault
  split
  · next state => exact probeOrPause_quiet (h.duties (by simp [Pch.driven, state])).1
  · exact h

theorem commitProfileState_quiet {s : State} (h : s.pch.quiet) : (commitProfileState s).pch.quiet := by
  unfold commitProfileState
  split
  · dsimp only
    split
    · next held =>
      refine .inr ⟨rfl, ?_⟩
      have held' : ({ s.pch with elapsed := 0, exitStreak := 0 } : Pch).hasReason = true := held
      simp [probeOrPause_eq, held']
    · next free =>
      have free' : ¬ ({ s.pch with elapsed := 0, exitStreak := 0 } : Pch).hasReason = true := free
      refine .inl (.inl ?_)
      simp [probeOrPause_eq, free']
  · next state => exact .inr (h.duties (by simp [Pch.driven, state]))
  · exact h

theorem apply_quiet (v : Int) {s : State} (p : Param) (h : s.pch.quiet) : (p.apply v s).pch.quiet := by
  have untouched (same : (p.apply v s).pch = s.pch) : (p.apply v s).pch.quiet := same.symm ▸ h
  cases p with
  | regInterval => exact h.of_same rfl rfl rfl
  | probeMin => exact h.of_same rfl rfl rfl
  | regBand => exact h.of_same rfl rfl rfl
  | regStep => exact h.of_same rfl rfl rfl
  | ocLimit => exact h.of_same rfl rfl rfl
  | rechargeInterval => exact h.of_same rfl rfl rfl
  | _ => exact untouched (by simp [Param.apply, recomputeDraw_eq, supplyEvent_eq, setIdleTimeout, setBusyOn, setBusyOff])

/-- The commands that reach the charger keep the coil quiet. -/
theorem exec_pch_quiet {c : Instr} {s t : State} (touching : .pch ∈ touches c) (h : s.pch.quiet)
    (ended : exec c s = .next t) : t.pch.quiet := by
  cases c
  case penInsertion time =>
    have ended : execPenInsertion s time = .next t := ended
    simp only [execPenInsertion] at ended
    split at ended
    · next state =>
      have state : s.pch.state = .empty := state
      obtain rfl := Host.Outcome.next.inj ended
      exact probeOrPause_quiet (s := (s.took (.penInsertion time)).setPch { s.pch with ocStreak := 0 })
        (h.duties (by simp [Pch.driven, state])).1
    · obtain rfl := Host.Outcome.next.inj ended
      exact h
  case penRemoval time =>
    have ended : execPenRemoval s time = .next t := ended
    simp only [execPenRemoval] at ended
    split at ended
    · obtain rfl := Host.Outcome.next.inj ended
      exact h
    · obtain rfl := Host.Outcome.next.inj ended
      exact .inr ⟨rfl, rfl⟩
  case ssuResultDelivery allowance dutyCeiling budgetPause =>
    have ended : execSsuResultDelivery allowance dutyCeiling budgetPause s = .next t := ended
    simp only [execSsuResultDelivery] at ended
    split at ended
    · next state =>
      have state : s.pch.state = _ := state
      obtain rfl := Host.Outcome.next.inj ended
      obtain ⟨applied, staged⟩ := h.duties (by simp [Pch.driven, state])
      exact resume_quiet _ applied staged
    · obtain rfl := Host.Outcome.next.inj ended
      exact h.of_same rfl rfl rfl
  case intervalEnd current =>
    obtain rfl := Host.Outcome.next.inj ended
    obtain driven | staged := handleState_stagedQuiet (s := s.setPch { s.pch with lastCurrent := current })
      (h.of_same rfl rfl rfl)
    · exact .inl driven
    · exact .inr ⟨staged, staged⟩
  case rechargeTimerExpiry =>
    have ended : execRechargeTimerExpiry s = .next t := ended
    simp only [execRechargeTimerExpiry] at ended
    split at ended
    · next due =>
      obtain rfl := Host.Outcome.next.inj ended
      exact probeOrPause_quiet (s := s.setPch { s.pch with rechargeTimer := .cancelled })
        (h.duties (by simp [Pch.driven, due.2])).1
    · obtain rfl := Host.Outcome.next.inj ended
      exact h
  case clearCharger tag =>
    obtain rfl := Host.Outcome.next.inj ended
    rw [answerOk_eq, answer_pch]
    exact clearFault_quiet h
  case commitProfile tag =>
    obtain rfl := Host.Outcome.next.inj ended
    rw [answerOk_eq, answer_pch]
    exact commitProfileState_quiet (h.of_same rfl rfl rfl)
  case writeRowsProfile tag start count rows =>
    obtain rfl := Host.Outcome.next.inj ended
    obtain ⟨_, _, _, _, given⟩ | ⟨rs, _, _, _, _, -, given⟩ := answerRows_cases (.writeRowsProfile tag start count rows) tag
      (checkRows readProfileRow 10 6 start count rows)
      (fun rs s => s.setPch { s.pch with pending := replaceRows s.pch.pending start.toNat rs })
      (s.took (.writeRowsProfile tag start count rows))
    · rw [given, answer_pch]
      exact h
    · rw [given, answer_pch]
      exact h.of_same rfl rfl rfl
  case setParam tag id value =>
    obtain ⟨_, _, _, _, rfl⟩ | ⟨p, _, _, _, _, rfl⟩ := exec_setParam_cases ended
    · rwa [answer_pch]
    · rw [answer_pch]
      exact apply_quiet _ p h
  all_goals simp [touches] at touching

/-- Settles O12: every entry to a state in which the coil is not driven stages 0, and the boundary of the interval, a removal
or a commit brings the applied duty to 0 with it. -/
theorem coilQuietKept : Obligations.CoilQuietKept := by
  refine step_keeps [.pch] (fun s t same h => ?_) (fun t reset => reset.coil) (fun c s t touched h ended => ?_)
  · have pch : t.pch = s.pch := same .pch (by simp)
    rw [coilQuiet_iff] at h ⊢
    rwa [pch]
  · rw [coilQuiet_iff] at h ⊢
    obtain ⟨b, hb, touching⟩ := touched
    obtain rfl : b = .pch := by simpa using hb
    exact exec_pch_quiet touching h ended

end Sys2Proof.Machine
end

-- PROOFS: the banks keep their shape, and the two downstream queues their bounds (O8, O9).
section

namespace Sys2Proof.Machine

/-! ### The rows of a WRITE_ROWS -/

theorem splitRows_length (size n : Nat) (bs : List Byte) : (splitRows size n bs).length = n := by
  induction n generalizing bs with
  | zero => rfl
  | succ n ih => simp [splitRows, ih]

/-- Rows that pass are as many as were sent. -/
theorem readAll_length {α : Type} {read : Nat → List Byte → Option α} {i : Nat} {bss : List (List Byte)} {rs : List α}
    (h : readAll read i bss = .rows rs) : rs.length = bss.length := by
  induction bss generalizing i rs with
  | nil => cases h; rfl
  | cons bs bss ih =>
    cases first : read i bs with
    | none => simp [readAll, first] at h
    | some a =>
      cases rest : readAll read (i + 1) bss with
      | refused status => simp [readAll, first, rest] at h
      | faulty index => simp [readAll, first, rest] at h
      | rows as =>
        simp only [readAll, first, rest, RowCheck.rows.injEq] at h
        subst h
        simp [ih rest]

/-- The first row that passes is read at the first index. -/
theorem readAll_head {α : Type} {read : Nat → List Byte → Option α} {i : Nat} {bss : List (List Byte)} {rs : List α} {a : α}
    (h : readAll read i bss = .rows rs) (head : rs.head? = some a) : ∃ bs, read i bs = some a := by
  cases bss with
  | nil =>
    cases h
    cases head
  | cons bs bss =>
    cases first : read i bs with
    | none => simp [readAll, first] at h
    | some b =>
      cases rest : readAll read (i + 1) bss with
      | refused status => simp [readAll, first, rest] at h
      | faulty index => simp [readAll, first, rest] at h
      | rows as =>
        simp only [readAll, first, rest, RowCheck.rows.injEq] at h
        subst h
        cases head
        exact ⟨bs, first⟩

/-- Rows that pass the checks lie within the table, and are at least one. -/
theorem checkRows_eq_rows {α : Type} {read : Nat → List Byte → Option α} {size tableSize : Nat} {start count : Byte}
    {bytes : List Byte} {rs : List α} (h : checkRows read size tableSize start count bytes = .rows rs) :
    0 < rs.length ∧ start.toNat + rs.length ≤ tableSize ∧ ∀ a, rs.head? = some a → ∃ bs, read start.toNat bs = some a := by
  unfold checkRows at h
  split at h
  · cases h
  split at h
  · cases h
  next covered =>
    have length := readAll_length h
    rw [splitRows_length] at length
    exact ⟨by omega, by omega, fun a => readAll_head h⟩

theorem replaceRows_length {α : Type} {bank : List α} {start : Nat} {rs : List α} (h : start + rs.length ≤ bank.length) :
    (replaceRows bank start rs).length = bank.length := by
  simp only [replaceRows, List.length_append, List.length_take, List.length_drop]
  omega

/-- The first row of a bank is the first row written, or the one that stood there. -/
theorem head?_replaceRows {α : Type} {bank : List α} {start : Nat} {rs : List α} (h : start + rs.length ≤ bank.length)
    (some : 0 < rs.length) : (replaceRows bank start rs).head? = if start = 0 then rs.head? else bank.head? := by
  cases start with
  | zero =>
    cases rs with
    | nil => simp at some
    | cons r rs => simp [replaceRows]
  | succ start =>
    cases bank with
    | nil => simp at h
    | cons b bank => simp [replaceRows]

/-- A profile row read at index 0 is in use (R133). -/
theorem readProfileRow_zero_inUse {bs : List Byte} {r : ProfileRow} (h : readProfileRow 0 bs = some r) :
    r.inUse = true := by
  unfold readProfileRow at h
  split at h
  · simp only [Option.bind_eq_bind, Option.bind_eq_some_iff] at h
    obtain ⟨inUse, -, kind, -, target, -, limit, -, action, -, exitBelow, -, h⟩ := h
    cases inUse with
    | false => simp at h
    | true =>
      simp at h
      simp [← h]
  · cases h

/-! ### The classifier's banks -/

/-- Both banks are as before. -/
def Pcl.sameBanks (p p' : Pcl) : Prop := p'.active = p.active ∧ p'.pending = p.pending

theorem startPosture_sameBanks (i : Nat) (s : State) : s.pcl.sameBanks (startPosture i s).pcl := by
  unfold startPosture
  split <;> exact ⟨rfl, rfl⟩

theorem candidateCase_sameBanks (i : Nat) (s : State) : s.pcl.sameBanks (candidateCase i s).pcl := by
  unfold candidateCase
  split
  · split
    · exact ⟨rfl, rfl⟩
    · exact startPosture_sameBanks i s
  · exact startPosture_sameBanks i s

theorem samePosture_sameBanks (i : Nat) (s : State) : s.pcl.sameBanks (samePosture i s).pcl := by
  simp only [samePosture]
  split <;> exact ⟨rfl, rfl⟩

theorem evaluate_sameBanks (s : State) : s.pcl.sameBanks (evaluate s).pcl := by
  cases found : matchedRow s.pcl with
  | none =>
    rw [evaluate_of_noMatch found]
    exact ⟨rfl, rfl⟩
  | some i =>
    rw [evaluate_of_match found]
    split
    · exact samePosture_sameBanks i _
    · exact candidateCase_sameBanks i _

/-- The number of rows of both posture banks (5.3). -/
def Pcl.shaped (p : Pcl) : Prop := p.active.length = 16 ∧ p.pending.length = 16

theorem Pcl.shaped.of_same {p p' : Pcl} (h : p.shaped) (same : p.sameBanks p') : p'.shaped := by
  unfold Pcl.shaped
  rwa [same.1, same.2]

/-- The commands that reach the classifier keep its banks' shape. -/
theorem exec_pcl_shaped {c : Instr} {s t : State} (touching : .pcl ∈ touches c) (h : s.pcl.shaped)
    (ended : exec c s = .next t) : t.pcl.shaped := by
  cases c
  case hingeDelivery => cases ended; exact h.of_same (evaluate_sameBanks _)
  case pclDockStateDelivery => cases ended; exact h.of_same (evaluate_sameBanks _)
  case pclHallEvent hall asserted time =>
    have recorded : s.pcl.sameBanks (s.pcl.recordHall hall asserted) := by cases hall <;> exact ⟨rfl, rfl⟩
    obtain rfl := Host.Outcome.next.inj ended
    exact (h.of_same recorded).of_same (evaluate_sameBanks ((s.took _).setPcl _))
  case postureDwellExpiry =>
    have ended : execPostureDwellExpiry s = .next t := ended
    unfold execPostureDwellExpiry at ended
    split at ended
    · split at ended <;> obtain rfl := Host.Outcome.next.inj ended <;> exact h
    · obtain rfl := Host.Outcome.next.inj ended
      exact h
  case commitPosture tag =>
    have ended : execCommitPosture tag s = .next t := ended
    unfold execCommitPosture at ended
    dsimp only at ended
    split at ended
    · obtain rfl := Host.Outcome.next.inj ended
      rw [answerOk_eq, answer_pcl]
      have switched : ({ s.pcl with active := s.pcl.pending } : Pcl).shaped := ⟨h.2, h.2⟩
      exact switched.of_same (evaluate_sameBanks (publishRow _ ((s.took _).setPcl { s.pcl.cancel with active := s.pcl.pending })))
    · obtain rfl := Host.Outcome.next.inj ended
      rwa [answerStatus_eq, answer_pcl]
  case clearNoMatch tag =>
    obtain rfl := Host.Outcome.next.inj ended
    rw [answerOk_eq, answer_pcl]
    exact h
  case writeRowsPosture tag start count rows =>
    obtain rfl := Host.Outcome.next.inj ended
    obtain ⟨_, _, _, _, given⟩ | ⟨rs, _, _, _, _, passed, given⟩ := answerRows_cases (.writeRowsPosture tag start count rows)
      tag (checkRows readPostureRow 23 16 start count rows)
      (fun rs s => s.setPcl { s.pcl with pending := replaceRows s.pcl.pending start.toNat rs })
      (s.took (.writeRowsPosture tag start count rows))
    · rw [given, answer_pcl]
      exact h
    · rw [given, answer_pcl]
      obtain ⟨-, within, -⟩ := checkRows_eq_rows passed
      exact ⟨h.1, (replaceRows_length (h.2 ▸ within)).trans h.2⟩
  all_goals simp [touches] at touching

/-! ### The charger's banks -/

/-- Both banks are as before. -/
def Pch.sameBanks (p p' : Pch) : Prop := p'.active = p.active ∧ p'.pending = p.pending

theorem probeOrPause_sameBanks (s : State) : s.pch.sameBanks (probeOrPause s).pch := by
  rw [probeOrPause_eq]
  dsimp only
  split <;> exact ⟨rfl, rfl⟩

theorem resume_sameBanks (target : PauseTarget) (s : State) : s.pch.sameBanks (resume target s).pch := by
  unfold resume
  split
  · exact ⟨rfl, rfl⟩
  · cases target <;> exact ⟨rfl, rfl⟩

theorem probeEnd_sameBanks (s : State) : s.pch.sameBanks (probeEnd s).pch := by
  unfold probeEnd
  dsimp only
  repeat' split
  all_goals exact ⟨rfl, rfl⟩

theorem completeStage_sameBanks (k : Nat) (s : State) : s.pch.sameBanks (completeStage k s).pch := by
  unfold completeStage
  split <;> exact ⟨rfl, rfl⟩

theorem regulate_sameBanks (k : Nat) (s : State) : s.pch.sameBanks (regulate k s).pch := by
  unfold regulate
  dsimp only
  split
  · exact completeStage_sameBanks k (s.setPch _)
  split
  · split
    · exact completeStage_sameBanks k (s.setPch _)
    · exact ⟨rfl, rfl⟩
  · exact ⟨rfl, rfl⟩

theorem chargingEnd_sameBanks (target : PauseTarget) (s : State) : s.pch.sameBanks (chargingEnd target s).pch := by
  unfold chargingEnd
  dsimp only
  generalize (if s.pch.ocLimit < s.pch.lastCurrent then s.pch.ocStreak + 1 else 0) = streak
  split
  · exact ⟨rfl, rfl⟩
  split
  · cases target <;> exact ⟨rfl, rfl⟩
  · cases target with
    | probe => exact probeEnd_sameBanks (s.setPch _)
    | charging k => exact regulate_sameBanks k (s.setPch _)

theorem handleState_sameBanks (s : State) : s.pch.sameBanks (handleState s).pch := by
  unfold handleState
  split
  · exact chargingEnd_sameBanks _ s
  · exact chargingEnd_sameBanks _ s
  · exact ⟨rfl, rfl⟩

theorem clearFault_sameBanks (s : State) : s.pch.sameBanks (clearFault s).pch := by
  unfold clearFault
  split
  · exact probeOrPause_sameBanks (s.setPch _)
  · exact ⟨rfl, rfl⟩

theorem commitProfileState_sameBanks (s : State) : s.pch.sameBanks (commitProfileState s).pch := by
  unfold commitProfileState
  split
  · dsimp only
    split
    · exact probeOrPause_sameBanks (s.setPch _)
    · exact probeOrPause_sameBanks (s.setPch _)
  · exact ⟨rfl, rfl⟩
  · exact ⟨rfl, rfl⟩

/-- The number of rows of both profile banks, and row 0 of both in use (8.4.1, R133). -/
def Pch.shaped (p : Pch) : Prop :=
  (p.active.length = 6 ∧ p.active.head?.map ProfileRow.inUse = some true)
  ∧ (p.pending.length = 6 ∧ p.pending.head?.map ProfileRow.inUse = some true)

theorem Pch.shaped.of_same {p p' : Pch} (h : p.shaped) (same : p.sameBanks p') : p'.shaped := by
  unfold Pch.shaped
  rwa [same.1, same.2]

theorem apply_pch_sameBanks (v : Int) (s : State) (p : Param) : s.pch.sameBanks (p.apply v s).pch := by
  cases p with
  | regInterval | probeMin | regBand | regStep | ocLimit | rechargeInterval => exact ⟨rfl, rfl⟩
  | _ =>
    simp [Pch.sameBanks, Param.apply, recomputeDraw_eq, supplyEvent_eq, setIdleTimeout, setBusyOn, setBusyOff]

/-- Profile rows that pass the checks leave row 0 in use. -/
theorem profile_rows_shaped {bank : List ProfileRow} {start count : Byte} {bytes : List Byte} {rs : List ProfileRow}
    (passed : checkRows readProfileRow 10 6 start count bytes = .rows rs)
    (h : bank.length = 6 ∧ bank.head?.map ProfileRow.inUse = some true) :
    (replaceRows bank start.toNat rs).length = 6
      ∧ (replaceRows bank start.toNat rs).head?.map ProfileRow.inUse = some true := by
  obtain ⟨length, inUse⟩ := h
  obtain ⟨some, within, head⟩ := checkRows_eq_rows passed
  rw [← length] at within
  refine ⟨(replaceRows_length within).trans length, ?_⟩
  rw [head?_replaceRows within some]
  split
  · next zero =>
    cases rs with
    | nil => simp at some
    | cons r rs =>
      obtain ⟨bs, read⟩ := head r rfl
      rw [zero] at read
      simp [readProfileRow_zero_inUse read]
  · exact inUse

/-- The commands that reach the charger keep its banks' shape. -/
theorem exec_pch_shaped {c : Instr} {s t : State} (touching : .pch ∈ touches c) (h : s.pch.shaped)
    (ended : exec c s = .next t) : t.pch.shaped := by
  cases c
  case penInsertion time =>
    have ended : execPenInsertion s time = .next t := ended
    simp only [execPenInsertion] at ended
    split at ended
    · obtain rfl := Host.Outcome.next.inj ended
      exact h.of_same (probeOrPause_sameBanks ((s.took _).setPch _))
    · obtain rfl := Host.Outcome.next.inj ended
      exact h
  case penRemoval time =>
    have ended : execPenRemoval s time = .next t := ended
    simp only [execPenRemoval] at ended
    split at ended <;> obtain rfl := Host.Outcome.next.inj ended <;> exact h
  case ssuResultDelivery allowance dutyCeiling budgetPause =>
    have ended : execSsuResultDelivery allowance dutyCeiling budgetPause s = .next t := ended
    simp only [execSsuResultDelivery] at ended
    split at ended
    · obtain rfl := Host.Outcome.next.inj ended
      exact h.of_same (resume_sameBanks _ ((s.took _).setPch _))
    · obtain rfl := Host.Outcome.next.inj ended
      exact h
  case intervalEnd current =>
    obtain rfl := Host.Outcome.next.inj ended
    exact h.of_same (handleState_sameBanks (s.setPch _))
  case rechargeTimerExpiry =>
    have ended : execRechargeTimerExpiry s = .next t := ended
    simp only [execRechargeTimerExpiry] at ended
    split at ended
    · obtain rfl := Host.Outcome.next.inj ended
      exact h.of_same (probeOrPause_sameBanks (s.setPch _))
    · obtain rfl := Host.Outcome.next.inj ended
      exact h
  case clearCharger tag =>
    obtain rfl := Host.Outcome.next.inj ended
    rw [answerOk_eq, answer_pch]
    exact h.of_same (clearFault_sameBanks (s.took _))
  case commitProfile tag =>
    obtain rfl := Host.Outcome.next.inj ended
    rw [answerOk_eq, answer_pch]
    have switched : ({ s.pch with active := s.pch.pending } : Pch).shaped := ⟨h.2, h.2⟩
    exact switched.of_same (commitProfileState_sameBanks ((s.took _).setPch _))
  case writeRowsProfile tag start count rows =>
    obtain rfl := Host.Outcome.next.inj ended
    obtain ⟨_, _, _, _, given⟩ | ⟨rs, _, _, _, _, passed, given⟩ := answerRows_cases (.writeRowsProfile tag start count rows)
      tag (checkRows readProfileRow 10 6 start count rows)
      (fun rs s => s.setPch { s.pch with pending := replaceRows s.pch.pending start.toNat rs })
      (s.took (.writeRowsProfile tag start count rows))
    · rw [given, answer_pch]
      exact h
    · rw [given, answer_pch]
      exact ⟨h.1, profile_rows_shaped passed h.2⟩
  case setParam tag id value =>
    obtain ⟨_, _, _, _, rfl⟩ | ⟨p, _, _, _, _, rfl⟩ := exec_setParam_cases ended
    · rwa [answer_pch]
    · rw [answer_pch]
      exact h.of_same (apply_pch_sameBanks _ (s.took _) p)
  all_goals simp [touches] at touching

end Sys2Proof.Machine
end

-- PROOFS: what every command keeps of the upstream engine (chapter 10; O7, O9).
section

namespace Sys2Proof.Machine

/-! ### Invariants of the upstream engine -/

/-- The transmitter, HOLD and the queue are as before, and so are the numbers of rows, of gap counts and of forwarding
states. -/
def Ufe.relaid (u u' : Ufe) : Prop :=
  u'.queue = u.queue ∧ u'.sending = u.sending ∧ u'.finalLost = u.finalLost ∧ u'.hold = u.hold
  ∧ (u.active.length = 12 ∧ u.pending.length = 12 → u'.active.length = 12 ∧ u'.pending.length = 12)
  ∧ u'.gaps.length = u.gaps.length ∧ u'.fwd.length = u.fwd.length

theorem Ufe.relaid_column (u : Ufe) (p : Platform) : u.relaid { u with column := p } :=
  ⟨rfl, rfl, rfl, rfl, id, rfl, rfl⟩

theorem Ufe.relaid_commit (u : Ufe) : u.relaid { u with active := u.pending } :=
  ⟨rfl, rfl, rfl, rfl, fun shaped => ⟨shaped.2, shaped.2⟩, rfl, rfl⟩

/-- A property `Q` of the upstream engine that every command keeps. Within a command, before a loss is settled, `M` holds
in its place. -/
structure UpstreamInvariant (M Q : Ufe → Prop) : Prop where
  mid : ∀ {u : Ufe}, Q u → M u
  settled : ∀ {u : Ufe}, M u → (u.finalLost ≠ none → u.sending ≠ none) → Q u
  reset : ∀ hold : Bool, Q (ufeReset hold)
  relaid : ∀ {u u' : Ufe}, M u → u.relaid u' → M u'
  replaced : ∀ {u u' : Ufe}, Q u → u.relaid u' → Q u'
  lost : ∀ (f : Frame) {s : State}, M s.ufe → M (lose f s).ufe
  joined : ∀ {f : Frame} {s : State}, M s.ufe → s.ufe.queue.length < 48 → (f.cls = .high ∨ s.ufe.lowerCount < 40) →
    (f.final = true → f.cls = .high) → M (enqueue f s).ufe
  swapped : ∀ {f g : Frame} {c : FrameClass} {s : State}, M s.ufe → oldest c s.ufe.queue = some g → c ≠ .high →
    (f.final = true → f.cls = .high) → M (enqueue f (evict c g s)).ufe
  completed : ∀ {s : State}, Q s.ufe → s.ufe.finalLost = none →
    Q (tryBegin (s.setUfe { s.ufe with sending := none })).ufe
  held : ∀ (hold : Bool) {s : State}, Q s.ufe → Q (tryBegin (s.setUfe { s.ufe with hold := hold })).ufe

/-- A record that the route table takes makes no final frame: the final RESPONSE bypasses the table (R155). -/
theorem frameOf_final {r : Record} (routed : r.bypasses = false) (extra : List Byte) (cls : FrameClass) (s : State) :
    (frameOf r extra cls s).final = true → (frameOf r extra cls s).cls = .high := by
  cases r <;> simp_all [frameOf, Record.final, Record.bypasses]

/-- What each stream's step keeps, a pass over several streams keeps. -/
theorem foldl_keeps_ufe {M : Ufe → Prop} {f : State → Stream → State} (hf : ∀ (s : State) st, M s.ufe → M (f s st).ufe)
    (sts : List Stream) {s : State} (h : M s.ufe) : M (sts.foldl f s).ufe := by
  induction sts generalizing s with
  | nil => exact h
  | cons st sts ih => exact ih (hf s st h)

section
variable {M Q : Ufe → Prop} (inv : UpstreamInvariant M Q)
include inv

theorem UpstreamInvariant.admitFrame {f : Frame} {s : State} (final : f.final = true → f.cls = .high) (h : M s.ufe) :
    M (admitFrame f s).ufe := by
  obtain ⟨joins, room, class_⟩ | ⟨c, g, joins, found, lower, -⟩ | lost := admitFrame_cases f s
  · rw [joins]
    exact inv.joined h room class_ final
  · rw [joins]
    exact inv.swapped h found lower final
  · rw [lost]
    exact inv.lost f h

theorem UpstreamInvariant.setFwd (i : Nat) (w : Forwarding) {s : State} (h : M s.ufe) : M (setFwd i w s).ufe :=
  inv.relaid h ⟨rfl, rfl, rfl, rfl, id, rfl, by simp [Machine.setFwd]⟩

theorem UpstreamInvariant.countGap (st : Stream) {s : State} (h : M s.ufe) : M (countGap st s).ufe :=
  inv.relaid h ⟨rfl, rfl, rfl, rfl, id, by simp [Machine.countGap, Ufe.setGap], rfl⟩

theorem UpstreamInvariant.queueBatch (st : Stream) (cls : FrameClass) {s : State} (h : M s.ufe) :
    M (queueBatch st cls s).ufe := by
  unfold Machine.queueBatch
  exact inv.admitFrame (by simp [batchFrame]) (inv.setFwd _ _ h)

theorem UpstreamInvariant.routeBy (c : RouteColumn) {r : Record} (routed : r.bypasses = false) {s : State} (h : M s.ufe) :
    M (routeBy c r s).ufe := by
  obtain ⟨action, cls⟩ := c
  cases action with
  | pass => exact inv.admitFrame (frameOf_final routed _ _ _) h
  | drop => exact inv.countGap _ h
  | decimate n =>
    simp only [Machine.routeBy, decimate]
    split
    · exact inv.admitFrame (frameOf_final routed _ _ _) (inv.setFwd _ _ h)
    · exact inv.setFwd _ _ h
  | changeOnly deadband maxHold =>
    simp only [Machine.routeBy, changeOnly]
    split
    · exact inv.admitFrame (frameOf_final routed _ _ _) (inv.setFwd _ _ h)
    · exact inv.setFwd _ _ h
  | batch block flush =>
    simp only [Machine.routeBy, batch]
    split
    · exact inv.queueBatch _ _ (inv.setFwd _ _ h)
    · exact inv.setFwd _ _ h

theorem UpstreamInvariant.takeOffer (r : Record) {s : State} (h : M s.ufe) : M (takeOffer r s).ufe := by
  unfold Machine.takeOffer
  split
  · exact inv.admitFrame (fun _ => rfl) h
  · next routed => exact inv.routeBy _ (by simpa using routed) h

theorem UpstreamInvariant.flushStream (st : Stream) {s : State} (h : M s.ufe) : M (flushStream s st).ufe := by
  unfold Machine.flushStream
  split
  · exact h
  · exact inv.queueBatch _ _ h

theorem UpstreamInvariant.resetThinning (st : Stream) {s : State} (h : M s.ufe) : M (resetThinning s st).ufe :=
  inv.setFwd _ _ h

theorem UpstreamInvariant.changeColumn (p : Platform) {s : State} (h : M s.ufe) : M (changeColumn p s).ufe := by
  have flushed : M (routedStreams.foldl Machine.flushStream s).ufe :=
    foldl_keeps_ufe (fun _ st => inv.flushStream st) routedStreams h
  have switched := inv.relaid flushed (Ufe.relaid_column _ p)
  exact foldl_keeps_ufe (fun s st => inv.resetThinning st) _ (s := (routedStreams.foldl Machine.flushStream s).setUfe _)
    switched

theorem UpstreamInvariant.commitRoutes {s : State} (h : M s.ufe) : M (commitRoutes s).ufe := by
  have flushed : M ((changedStreams s.ufe).foldl Machine.flushStream s).ufe :=
    foldl_keeps_ufe (fun _ st => inv.flushStream st) (changedStreams s.ufe) h
  have switched := inv.relaid flushed (Ufe.relaid_commit _)
  exact foldl_keeps_ufe (fun s st => inv.resetThinning st) _ (s := ((changedStreams s.ufe).foldl Machine.flushStream s).setUfe _)
    switched

theorem UpstreamInvariant.restarted {t : State} (h : restarted t) : Q t.ufe := by
  obtain ⟨-, -, -, -, -, -, ⟨hold, ufe⟩, -⟩ := h
  rw [ufe]
  exact inv.reset hold

/-- A loss that is settled: it waits behind a frame, or the reset is carried out. -/
theorem UpstreamInvariant.settleLoss {s : State} (h : M s.ufe) : Q (settleLoss s).ufe := by
  by_cases waits : s.ufe.finalLost ≠ none → s.ufe.sending ≠ none
  · rw [settleLoss_of_waits s waits]
    exact inv.settled h waits
  · simp only [not_forall, not_not] at waits
    obtain ⟨loses, idle⟩ := waits
    obtain ⟨tag, lost⟩ := Option.ne_none_iff_exists'.mp loses
    simp only [Machine.settleLoss, lost, idle]
    exact inv.reset s.ufe.hold

theorem UpstreamInvariant.frameCompletion {s t : State} (h : Q s.ufe) (ended : execFrameCompletion s = .next t) :
    Q t.ufe := by
  simp only [execFrameCompletion] at ended
  split at ended
  · obtain rfl := Host.Outcome.next.inj ended
    exact h
  split at ended
  · obtain rfl := Host.Outcome.next.inj ended
    exact inv.reset s.ufe.hold
  · obtain rfl := Host.Outcome.next.inj ended
    by_cases lost : s.ufe.finalLost = none
    · rw [settleLoss_of_none (s.setUfe { s.ufe with sending := none }) lost]
      exact inv.completed h lost
    · obtain ⟨tag, lost⟩ := Option.ne_none_iff_exists'.mp lost
      have carriedOut : Machine.settleLoss (s.setUfe { s.ufe with sending := none }) =
          softResetCarriedOut ((s.setUfe { s.ufe with sending := none }).setHlm { s.hlm with lastLost := some tag }) := by
        simp [Machine.settleLoss, lost]
      rw [carriedOut]
      exact inv.restarted (tryBegin_resetFrom (softResetCarriedOut_resetFrom _)).1

/-- The commands that reach the upstream engine keep its invariants. -/
theorem UpstreamInvariant.exec {c : Instr} {s t : State} (touching : .ufe ∈ touches c) (h : Q s.ufe)
    (ended : exec c s = .next t) : Q t.ufe := by
  have answered (c : Instr) (tag code : Byte) (status : Status) (row : Byte) (data : List Byte) {u : State} (hu : Q u.ufe) :
      Q (answer c tag code status row data u).ufe := by rwa [answer_ufe]
  cases c
  case recordOffer r =>
    obtain rfl := Host.Outcome.next.inj ended
    exact inv.settleLoss (inv.takeOffer r (inv.mid h))
  case flushTimerExpiry st =>
    have ended : execFlushTimerExpiry st s = .next t := ended
    unfold execFlushTimerExpiry at ended
    split at ended
    · obtain rfl := Host.Outcome.next.inj ended
      exact inv.settleLoss (inv.queueBatch _ _ (inv.mid h))
    · obtain rfl := Host.Outcome.next.inj ended
      exact h
  case columnChange p =>
    have ended : execColumnChange p s = .next t := ended
    simp only [execColumnChange] at ended
    split at ended
    · obtain rfl := Host.Outcome.next.inj ended
      exact h
    · obtain rfl := Host.Outcome.next.inj ended
      refine inv.settleLoss (inv.changeColumn p ?_)
      exact inv.mid h
  case commitRoute tag =>
    obtain rfl := Host.Outcome.next.inj ended
    refine answered _ _ _ _ _ _ (inv.settleLoss (inv.commitRoutes ?_))
    exact inv.mid h
  case frameCompletion => exact inv.frameCompletion h ended
  case holdChange asserted =>
    obtain rfl := Host.Outcome.next.inj ended
    exact inv.held asserted h
  case writeRowsRoute tag start count rows =>
    obtain rfl := Host.Outcome.next.inj ended
    obtain ⟨_, _, _, _, given⟩ | ⟨rs, _, _, _, _, passed, given⟩ := answerRows_cases (.writeRowsRoute tag start count rows)
      tag (checkRows readRouteEntry 16 12 start count rows)
      (fun rs s => s.setUfe { s.ufe with pending := replaceRows s.ufe.pending start.toNat rs })
      (s.took (.writeRowsRoute tag start count rows))
    · rw [given]
      exact answered _ _ _ _ _ _ h
    · rw [given]
      refine answered _ _ _ _ _ _ ?_
      obtain ⟨-, within, -⟩ := checkRows_eq_rows passed
      refine inv.replaced h ?_
      exact ⟨rfl, rfl, rfl, rfl, fun shaped => ⟨shaped.1, (replaceRows_length (shaped.2 ▸ within)).trans shaped.2⟩, rfl, rfl⟩
  all_goals simp [touches] at touching

end

end Sys2Proof.Machine
end

-- PROOFS: the upstream bounds, the banks' shapes and the first profile row (O7, O9).
section

namespace Sys2Proof.Machine

/-! ### The queue without its oldest frame of a class -/

theorem oldest_cls {c : FrameClass} {q : List Frame} {f : Frame} (found : oldest c q = some f) : f ∈ q ∧ f.cls = c := by
  have cls := List.find?_some found
  exact ⟨List.mem_of_find?_eq_some found, by simpa using cls⟩

/-- A queue that is not empty has an oldest frame of the class sent next. -/
theorem oldest_nextClass_eq_none {q : List Frame} (h : oldest (nextClass q) q = none) : q = [] := by
  have absent : ∀ c, oldest c q = none := by
    unfold nextClass at h
    split at h
    · next high => simp [h] at high
    split at h
    · next normal => simp [h] at normal
    next high normal =>
    intro c
    cases c with
    | high => simpa using high
    | normal => simpa using normal
    | low => exact h
  refine List.eq_nil_iff_forall_not_mem.mpr fun f hf => ?_
  have differs := List.find?_eq_none.mp (absent f.cls) f hf
  simp at differs

theorem withoutOldest_sublist (c : FrameClass) (q : List Frame) : (withoutOldest c q).Sublist q := List.eraseP_sublist

/-- The oldest frame of a class is one frame of that class. -/
theorem withoutOldest_length_add_one {c : FrameClass} {q : List Frame} {g : Frame} (found : oldest c q = some g) :
    (withoutOldest c q).length + 1 = q.length := by
  obtain ⟨mem, cls⟩ := oldest_cls found
  have shorter := List.length_eraseP_of_mem (p := fun f : Frame => f.cls == c) mem (by simp [cls])
  have positive := List.length_pos_of_mem mem
  unfold withoutOldest
  omega

theorem classCount_append (c : FrameClass) (q : List Frame) (f : Frame) :
    classCount c (q ++ [f]) = classCount c q + if f.cls = c then 1 else 0 := by
  by_cases h : f.cls = c <;> simp [classCount, h]

theorem classCount_le {q q' : List Frame} (sub : q'.Sublist q) (c : FrameClass) : classCount c q' ≤ classCount c q :=
  (sub.filter _).length_le

theorem classCount_withoutOldest {c : FrameClass} {q : List Frame} {g : Frame} (found : oldest c q = some g) :
    classCount c (withoutOldest c q) + 1 = classCount c q := by
  induction q with
  | nil => cases found
  | cons f q ih =>
    by_cases h : f.cls = c
    · simp [withoutOldest, classCount, h]
    · have later : oldest c q = some g := by simpa [oldest, h] using found
      simpa [withoutOldest, classCount, h] using ih later

/-! ### The transmitter's test -/

/-- The transmitter begins a queued frame, or stays as it is, busy, held back or with nothing to send. -/
theorem tryBegin_cases (s : State) :
    (tryBegin s = s ∧ (s.ufe.sending = none → s.ufe.hold = false → s.ufe.finalLost = none → s.ufe.queue = []))
    ∨ ∃ c f, tryBegin s = beginFrame c f s ∧ oldest c s.ufe.queue = some f := by
  unfold tryBegin
  split
  · split
    · next f found => exact .inr ⟨_, f, rfl, found⟩
    · next none => exact .inl ⟨rfl, fun _ _ _ => oldest_nextClass_eq_none none⟩
  · next busy =>
    refine .inl ⟨rfl, fun idle clear kept => absurd ?_ busy⟩
    simp [idle, clear, kept]

/-- The transmitter's test takes at most a frame from the queue. -/
theorem tryBegin_sublist (s : State) : (tryBegin s).ufe.queue.Sublist s.ufe.queue := by
  obtain ⟨same, -⟩ | ⟨c, f, begins, -⟩ := tryBegin_cases s
  · rw [same]
  · rw [begins]
    exact withoutOldest_sublist c _

theorem tryBegin_lengths (s : State) :
    (tryBegin s).ufe.gaps.length = s.ufe.gaps.length ∧ (tryBegin s).ufe.finalLost = s.ufe.finalLost
    ∧ (tryBegin s).ufe.hold = s.ufe.hold := by
  obtain ⟨same, -⟩ | ⟨c, f, begins, -⟩ := tryBegin_cases s
  · rw [same]
    exact ⟨rfl, rfl, rfl⟩
  · rw [begins]
    simp [beginFrame, Ufe.setGap]

/-- A frame in transmission goes on. -/
theorem tryBegin_sending {s : State} (h : s.ufe.sending ≠ none) : (tryBegin s).ufe.sending ≠ none := by
  rw [tryBegin_of_sending s (Option.isSome_iff_ne_none.mpr h)]
  exact h

/-- After the test, frames are queued only behind a frame in transmission, under HOLD, or after a loss. -/
theorem tryBegin_settles (s : State) : (tryBegin s).ufe.finalLost = none → (tryBegin s).ufe.sending = none →
    (tryBegin s).ufe.hold = false → (tryBegin s).ufe.queue = [] := by
  obtain ⟨same, settled⟩ | ⟨c, f, begins, -⟩ := tryBegin_cases s
  · rw [same]
    exact fun kept idle clear => settled idle clear kept
  · rw [begins]
    simp [beginFrame, Ufe.setGap]

/-! ### The bounds of admission (R163) -/

def Ufe.bounded (u : Ufe) : Prop := u.queue.length ≤ 48 ∧ u.lowerCount ≤ 40

theorem Ufe.bounded.of_sublist {u u' : Ufe} (h : u.bounded) (sub : u'.queue.Sublist u.queue) : u'.bounded := by
  have normal := classCount_le sub .normal
  have low := classCount_le sub .low
  have length := sub.length_le
  simp only [bounded, lowerCount] at *
  omega

theorem Ufe.bounded_invariant : UpstreamInvariant Ufe.bounded Ufe.bounded where
  mid h := h
  settled h _ := h
  reset hold := by simp [Ufe.bounded, ufeReset, Ufe.lowerCount, classCount]
  relaid h same := h.of_sublist (by rw [same.1])
  replaced h same := h.of_sublist (by rw [same.1])
  lost f s h := h.of_sublist (by rw [lose_queue])
  joined := by
    intro f s h room class_ _
    refine Ufe.bounded.of_sublist ?_ (tryBegin_sublist _)
    simp only [Ufe.bounded, Ufe.lowerCount, State.setUfe_ufe, classCount_append, List.length_append] at *
    refine ⟨by simpa using room, ?_⟩
    cases hc : f.cls <;> simp [hc] at class_ ⊢ <;> omega
  swapped := by
    intro f g c s h found lower _
    refine Ufe.bounded.of_sublist ?_ (tryBegin_sublist _)
    have length := withoutOldest_length_add_one found
    have count := classCount_withoutOldest found
    have normal := classCount_le (withoutOldest_sublist c s.ufe.queue) .normal
    have low := classCount_le (withoutOldest_sublist c s.ufe.queue) .low
    have evicted : (evict c g s).ufe.queue = withoutOldest c s.ufe.queue := lose_queue _ _
    simp only [Ufe.bounded, Ufe.lowerCount, State.setUfe_ufe, evicted, classCount_append, List.length_append] at *
    refine ⟨by simpa using by omega, ?_⟩
    cases hf : f.cls <;> cases c <;> simp at lower count ⊢ <;> omega
  completed h _ := h.of_sublist (tryBegin_sublist _)
  held hold s h := h.of_sublist (tryBegin_sublist _)

/-! ### Final RESPONSEs are queued at class HIGH (R155) -/

def Ufe.finalsHigh (u : Ufe) : Prop := ∀ f ∈ u.queue, f.final = true → f.cls = .high

theorem Ufe.finalsHigh.of_sublist {u u' : Ufe} (h : u.finalsHigh) (sub : u'.queue.Sublist u.queue) : u'.finalsHigh :=
  fun f hf => h f (sub.subset hf)

theorem Ufe.finalsHigh.append {q : List Frame} {f : Frame} (h : ∀ g ∈ q, g.final = true → g.cls = .high)
    (final : f.final = true → f.cls = .high) : ∀ g ∈ q ++ [f], g.final = true → g.cls = .high := by
  intro g hg
  obtain hg | hg := List.mem_append.mp hg
  · exact h g hg
  · obtain rfl := List.mem_singleton.mp hg
    exact final

theorem Ufe.finalsHigh_invariant : UpstreamInvariant Ufe.finalsHigh Ufe.finalsHigh where
  mid h := h
  settled h _ := h
  reset hold := by simp [Ufe.finalsHigh, ufeReset]
  relaid h same := h.of_sublist (by rw [same.1])
  replaced h same := h.of_sublist (by rw [same.1])
  lost f s h := h.of_sublist (by rw [lose_queue])
  joined := by
    intro f s h _ _ final
    refine Ufe.finalsHigh.of_sublist ?_ (tryBegin_sublist _)
    exact Ufe.finalsHigh.append h final
  swapped := by
    intro f g c s h _ _ final
    refine Ufe.finalsHigh.of_sublist ?_ (tryBegin_sublist _)
    have evicted : (evict c g s).ufe.queue = withoutOldest c s.ufe.queue := lose_queue _ _
    refine Ufe.finalsHigh.append (fun k hk => ?_) final
    rw [evicted] at hk
    exact h k ((withoutOldest_sublist c _).subset hk)
  completed h _ := h.of_sublist (tryBegin_sublist _)
  held hold s h := h.of_sublist (tryBegin_sublist _)

/-! ### The transmitter, HOLD and the queue (R165, R166) -/

/-- Frames are queued only behind a frame in transmission, under HOLD, or after the loss of the final RESPONSE. -/
def Ufe.begun (u : Ufe) : Prop := u.finalLost = none → u.sending = none → u.hold = false → u.queue = []

def Ufe.settled (u : Ufe) : Prop :=
  (u.finalLost ≠ none → u.sending ≠ none) ∧ (u.sending = none → u.hold = false → u.queue = [])

theorem Ufe.relaid.begun {u u' : Ufe} (same : u.relaid u') (h : u.begun) : u'.begun := by
  obtain ⟨queue, sending, finalLost, hold, -⟩ := same
  unfold Ufe.begun
  rwa [queue, sending, finalLost, hold]

theorem Ufe.settled_invariant : UpstreamInvariant Ufe.begun Ufe.settled where
  mid h _ := h.2
  settled h waits := ⟨waits, fun idle => h (by_contra fun loses => waits loses idle) idle⟩
  reset hold := by simp [Ufe.settled, ufeReset]
  relaid h same := same.begun h
  replaced h same := by
    obtain ⟨queue, sending, finalLost, hold, -⟩ := same
    unfold Ufe.settled
    rwa [queue, sending, finalLost, hold]
  lost f s h := by
    rw [lose_eq]
    intro kept
    dsimp only at kept
    split at kept
    · cases kept
    · exact h kept
  joined _ _ _ _ := tryBegin_settles _
  swapped _ _ _ _ := tryBegin_settles _
  completed := by
    intro s h kept
    have kept' : (tryBegin (s.setUfe { s.ufe with sending := none })).ufe.finalLost = none :=
      (tryBegin_lengths _).2.1.trans kept
    exact ⟨fun loses => absurd kept' loses, tryBegin_settles _ kept'⟩
  held := by
    intro hold s h
    have finalLost : (tryBegin (s.setUfe { s.ufe with hold := hold })).ufe.finalLost = s.ufe.finalLost :=
      (tryBegin_lengths _).2.1
    have goesOn := fun busy => tryBegin_sending (s := s.setUfe { s.ufe with hold := hold }) busy
    refine ⟨fun loses => goesOn (h.1 (finalLost ▸ loses)), fun idle => tryBegin_settles _ ?_ idle⟩
    rw [finalLost]
    exact by_contra fun loses => goesOn (h.1 loses) idle

/-! ### The banks -/

def Ufe.shaped (u : Ufe) : Prop :=
  (u.active.length = 12 ∧ u.pending.length = 12) ∧ u.gaps.length = 15 ∧ u.fwd.length = 12

theorem Ufe.relaid.shaped {u u' : Ufe} (same : u.relaid u') (h : u.shaped) : u'.shaped := by
  obtain ⟨-, -, -, -, banks, gaps, fwd⟩ := same
  exact ⟨banks h.1, gaps.trans h.2.1, fwd.trans h.2.2⟩

theorem tryBegin_shaped {s : State} (h : s.ufe.shaped) : (tryBegin s).ufe.shaped := by
  obtain ⟨active, pending, -, fwd, -⟩ := tryBegin_keeps s
  unfold Ufe.shaped
  rwa [active, pending, fwd, (tryBegin_lengths s).1]

theorem lose_shaped (f : Frame) {s : State} (h : s.ufe.shaped) : (lose f s).ufe.shaped := by
  rw [lose_eq]
  exact ⟨h.1, by simpa using h.2.1, h.2.2⟩

theorem Ufe.shaped_invariant : UpstreamInvariant Ufe.shaped Ufe.shaped where
  mid h := h
  settled h _ := h
  reset hold := by simp [Ufe.shaped, ufeReset, defaultRoutes]
  relaid h same := same.shaped h
  replaced h same := same.shaped h
  lost f s h := lose_shaped f h
  joined h _ _ _ := tryBegin_shaped h
  swapped h _ _ _ := tryBegin_shaped (lose_shaped _ (s := State.setUfe _ _) h)
  completed h _ := tryBegin_shaped h
  held hold s h := tryBegin_shaped (s := s.setUfe _) h

/-! ### Every step -/

/-- An invariant of the upstream engine is kept by every step. -/
theorem UpstreamInvariant.step {M Q : Ufe → Prop} (inv : UpstreamInvariant M Q) :
    ∀ s t : State, Q s.ufe → step s = .next t → Q t.ufe := by
  refine step_keeps (P := fun s => Q s.ufe) [.ufe] (fun s t same h => ?_) (fun t reset => inv.restarted reset)
    (fun c s t touched h ended => ?_)
  · have ufe : t.ufe = s.ufe := same .ufe (by simp)
    exact ufe ▸ h
  · obtain ⟨b, hb, touching⟩ := touched
    obtain rfl : b = .ufe := by simpa using hb
    exact inv.exec touching h ended

/-- Settles O7: the three invariants of the upstream engine. -/
theorem upstreamBoundsKept : Obligations.UpstreamBoundsKept := fun s t ended =>
  ⟨fun h => Ufe.bounded_invariant.step s t h ended, fun h => Ufe.settled_invariant.step s t h ended,
    fun h => Ufe.finalsHigh_invariant.step s t h ended⟩

/-! ### The banks of the classifier, the upstream engine and the charger -/

theorem banks_shaped_iff (s : State) :
    banksShaped s ∧ firstStageInUse s ↔ s.pcl.shaped ∧ s.ufe.shaped ∧ s.pch.shaped := by
  unfold banksShaped firstStageInUse Pcl.shaped Ufe.shaped Pch.shaped
  tauto

theorem pcl_shaped_step : ∀ s t : State, s.pcl.shaped → step s = .next t → t.pcl.shaped := by
  refine step_keeps (P := fun s => s.pcl.shaped) [.pcl] (fun s t same h => ?_) (fun t reset => ?_)
    (fun c s t touched h ended => ?_)
  · have pcl : t.pcl = s.pcl := same .pcl (by simp)
    exact pcl ▸ h
  · exact ((banks_shaped_iff t).mp reset.banks).1
  · obtain ⟨b, hb, touching⟩ := touched
    obtain rfl : b = .pcl := by simpa using hb
    exact exec_pcl_shaped touching h ended

theorem pch_shaped_step : ∀ s t : State, s.pch.shaped → step s = .next t → t.pch.shaped := by
  refine step_keeps (P := fun s => s.pch.shaped) [.pch] (fun s t same h => ?_) (fun t reset => ?_)
    (fun c s t touched h ended => ?_)
  · have pch : t.pch = s.pch := same .pch (by simp)
    exact pch ▸ h
  · exact ((banks_shaped_iff t).mp reset.banks).2.2
  · obtain ⟨b, hb, touching⟩ := touched
    obtain rfl : b = .pch := by simpa using hb
    exact exec_pch_shaped touching h ended

/-- Settles O9: the banks of the three blocks that have them. -/
theorem banksKept : Obligations.BanksKept := by
  intro s t h ended
  obtain ⟨pcl, ufe, pch⟩ := (banks_shaped_iff s).mp h
  exact (banks_shaped_iff t).mpr
    ⟨pcl_shaped_step s t pcl ended, Ufe.shaped_invariant.step s t ufe ended, pch_shaped_step s t pch ended⟩

end Sys2Proof.Machine
end

-- PROOFS: what the commands do to the dock's queue of items, and the downstream bounds (chapter 2; O8).
section

namespace Sys2Proof.Machine

/-! ### Steps that leave the dock's queue alone -/

@[simp] theorem setDockState_queue (st : DockState) (s : State) : (setDockState st s).dlc.queue = s.dlc.queue := by
  rw [setDockState_eq]

@[simp] theorem recomputeDraw_queue (s : State) : (recomputeDraw s).dlc.queue = s.dlc.queue := by
  rw [recomputeDraw_eq]

@[simp] theorem dockEvent_queue (kind : DockEventKind) (s : State) : (dockEvent kind s).dlc.queue = s.dlc.queue := by
  rw [dockEvent_eq]

@[simp] theorem reportDropped_queue (dropped : Bool) (s : State) :
    (reportDropped dropped s).dlc.queue = s.dlc.queue := by
  cases dropped
  · rfl
  · exact dockEvent_queue _ s

@[simp] theorem enterAttaching_queue (s : State) : (enterAttaching s).dlc.queue = s.dlc.queue := by
  rw [enterAttaching_eq]

@[simp] theorem enterMute_queue (s : State) : (enterMute s).dlc.queue = s.dlc.queue := by
  rw [enterMute_eq]

@[simp] theorem announce_queue (s : State) : (announce s).dlc.queue = s.dlc.queue := by
  simp [announce]

theorem attachStep_queue (records : List DockRecord) (s : State) : (attachStep records s).1.dlc.queue = s.dlc.queue := by
  unfold attachStep
  split
  · split <;> simp
  · dsimp only
    split <;> simp
  · rfl

theorem handleRecord_queue (s : State) (r : DockRecord) : (handleRecord s r).dlc.queue = s.dlc.queue := by
  cases r with
  | key modifier codes => cases gate : s.dlc.keyGate <;> simp [handleRecord, handleKey, gate, apply_ite]
  | pointer dx dy buttons wheel => cases gate : s.dlc.pointerGate <;> simp [handleRecord, handlePointer, gate, apply_ite]
  | baseMotion x y z newData =>
    simp only [handleRecord, handleBaseMotion]
    split <;> rfl
  | status draw identity faultBits => simp [handleRecord, handleStatus]

theorem foldl_handleRecord_queue (records : List DockRecord) (s : State) :
    (records.foldl handleRecord s).dlc.queue = s.dlc.queue := by
  induction records generalizing s with
  | nil => rfl
  | cons r records ih => exact (ih _).trans (handleRecord_queue s r)

/-! ### What one command does to the dock's queue -/

/-- One command leaves the dock's queue alone, takes the head away, counts its offer, empties the queue, or adds a new
item where there is room (R31, R32). -/
def requeued (q q' : List DockItem) : Prop :=
  q' = q ∨ q' = q.tail ∨ q' = afterUnconsumed q ∨ q' = [] ∨ ∃ bytes, q.length < 4 ∧ q' = q ++ [{ bytes := bytes, offers := 0 }]

theorem requeued_refl (q : List DockItem) : requeued q q := .inl rfl

theorem requeued_unconsumed (riding : Bool) (s : State) :
    requeued s.dlc.queue (if riding then countUnconsumed s else s).dlc.queue := by
  cases riding
  · exact .inl rfl
  · rw [if_pos rfl, countUnconsumed_eq]
    exact .inr (.inr (.inl rfl))

theorem exchangeFailed_requeued (kind : FailKind) (e : Exchange) (s : State) :
    requeued s.dlc.queue (exchangeFailed kind e s).dlc.queue := by
  have counted := requeued_unconsumed e.riding s
  unfold exchangeFailed
  dsimp only
  generalize (if e.riding then countUnconsumed s else s) = s1 at counted ⊢
  split
  · rwa [enterMute_queue]
  · rwa [reportDropped_queue]

theorem settleItem_requeued (riding consumed : Bool) (s : State) :
    requeued s.dlc.queue (settleItem riding consumed s).dlc.queue := by
  cases riding
  · exact .inl rfl
  cases consumed
  · exact requeued_unconsumed true s
  · unfold settleItem
    rw [if_pos rfl, if_pos rfl]
    split
    · exact .inl rfl
    · rw [popItem_eq]
      exact .inr (.inl rfl)

theorem exchangeGood_requeued (e : Exchange) (consumed : Bool) (records : List DockRecord) (s : State) :
    requeued s.dlc.queue (exchangeGood e consumed records s).dlc.queue := by
  simp only [exchangeGood, reportDropped_queue]
  split
  · rw [foldl_handleRecord_queue, attachStep_queue]
    exact settleItem_requeued e.riding consumed s
  · rw [attachStep_queue]
    exact settleItem_requeued e.riding consumed s

theorem teardown_queue (target : DockState) (kind : DockEventKind) (s : State) :
    (teardown target kind s).dlc.queue = [] := by
  simp [teardown]

theorem contactAsserted_queue (s : State) : (contactAsserted s).dlc.queue = s.dlc.queue := by
  unfold contactAsserted
  split
  · split <;> simp
  · rfl

theorem contactClear_requeued (s : State) : requeued s.dlc.queue (contactClear s).dlc.queue := by
  unfold contactClear
  split
  · exact .inl rfl
  · exact .inr (.inr (.inr (.inl (teardown_queue .absent .detached s))))

theorem al0Changed_requeued (on : Bool) (s : State) : requeued s.dlc.queue (al0Changed on s).dlc.queue := by
  cases on <;> cases state : s.dlc.state <;> simp [al0Changed, state, requeued, teardown_queue]

theorem setKeyGate_queue (value : Gate) (s : State) : (setKeyGate value s).dlc.queue = s.dlc.queue := by
  simp only [setKeyGate]
  split <;> rfl

theorem setPointerGate_queue (value : Gate) (s : State) : (setPointerGate value s).dlc.queue = s.dlc.queue := by
  simp only [setPointerGate]
  split <;> rfl

theorem handItem_requeued (item : List Byte) (s : State) : requeued s.dlc.queue (handItem item s).dlc.queue := by
  have taken (takes : takesItem s = true) : requeued s.dlc.queue (takeItem item s).dlc.queue := by
    unfold takeItem
    split
    · next live =>
      have room : s.dlc.queue.length < 4 := by simpa [takesItem, live] using takes
      exact .inr (.inr (.inr (.inr ⟨item, room, rfl⟩)))
    · exact .inl (by simp)
  simp only [handItem]
  split
  · next takes =>
    split
    · rw [departHead_eq]
      exact taken takes
    · exact taken takes
  · split <;> exact .inl rfl

theorem restartDock_requeued (s : State) : requeued s.dlc.queue (restartDock s).dlc.queue := by
  simp only [restartDock, reportDropped_queue, enterAttaching_queue]
  exact requeued_unconsumed _ (abandonExchange s)

theorem apply_dlcQueue (v : Int) (s : State) (p : Param) : (p.apply v s).dlc.queue = s.dlc.queue := by
  cases p with
  | dockDefaultDraw => simp [Param.apply]
  | _ => simp [Param.apply, setIdleTimeout, setBusyOn, setBusyOff, supplyEvent_eq]

/-- Each command that reaches the dock link does at most one thing to its queue. -/
theorem exec_requeued {c : Instr} {s t : State} (touching : .dlc ∈ touches c) (ended : exec c s = .next t) :
    requeued s.dlc.queue t.dlc.queue := by
  cases c
  case pollTimerExpiry =>
    have ended : execPollTimerExpiry s = .next t := ended
    simp only [execPollTimerExpiry] at ended
    split at ended
    · split at ended <;> obtain rfl := Host.Outcome.next.inj ended <;> exact .inl rfl
    · obtain rfl := Host.Outcome.next.inj ended
      exact .inl rfl
  case answerBegin =>
    have ended : execAnswerBegin s = .next t := ended
    unfold execAnswerBegin at ended
    split at ended <;> obtain rfl := Host.Outcome.next.inj ended <;> exact .inl rfl
  case answerTimeout =>
    have ended : execAnswerTimeout s = .next t := ended
    unfold execAnswerTimeout at ended
    split at ended
    · split at ended
      · obtain rfl := Host.Outcome.next.inj ended
        exact .inl rfl
      · obtain rfl := Host.Outcome.next.inj ended
        exact exchangeFailed_requeued _ _ s
    · obtain rfl := Host.Outcome.next.inj ended
      exact .inl rfl
  case answerCutoff =>
    have ended : execAnswerCutoff s = .next t := ended
    unfold execAnswerCutoff at ended
    split at ended
    · obtain rfl := Host.Outcome.next.inj ended
      exact .inl rfl
    · split at ended <;> obtain rfl := Host.Outcome.next.inj ended
      · exact exchangeFailed_requeued _ _ s
      · exact .inl rfl
  case answerEnd bytes =>
    have ended : execAnswerEnd bytes s = .next t := ended
    unfold execAnswerEnd at ended
    split at ended
    · obtain rfl := Host.Outcome.next.inj ended
      exact .inl rfl
    · split at ended
      · obtain rfl := Host.Outcome.next.inj ended
        exact .inl rfl
      · split at ended <;> obtain rfl := Host.Outcome.next.inj ended
        · exact exchangeFailed_requeued _ _ s
        · exact exchangeGood_requeued _ _ _ s
  case dockContactEvent asserted time =>
    obtain rfl := Host.Outcome.next.inj ended
    cases asserted
    · exact contactClear_requeued (s.took (.dockContactEvent false time))
    · exact .inl (contactAsserted_queue _)
  case al0LevelDelivery on =>
    obtain rfl := Host.Outcome.next.inj ended
    split
    · exact .inl rfl
    · exact al0Changed_requeued on (s.took (.al0LevelDelivery on))
  case attachTimerExpiry =>
    have ended : execAttachTimerExpiry s = .next t := ended
    unfold execAttachTimerExpiry at ended
    split at ended <;> obtain rfl := Host.Outcome.next.inj ended
    · exact .inl (enterMute_queue _)
    · exact .inl rfl
  case gateDelivery which value =>
    cases which <;> obtain rfl := Host.Outcome.next.inj ended
    · exact .inl (setKeyGate_queue value _)
    · exact .inl (setPointerGate_queue value _)
  case dockItemHandover item =>
    obtain rfl := Host.Outcome.next.inj ended
    exact handItem_requeued item (s.took (.dockItemHandover item))
  case dockRoomNotice =>
    have ended : execDockRoomNotice s = .next t := ended
    simp only [execDockRoomNotice] at ended
    split at ended <;> obtain rfl := Host.Outcome.next.inj ended
    · exact handItem_requeued _ (s.took .dockRoomNotice)
    · exact .inl rfl
  case restartPortDock tag =>
    have ended : execRestartPortDock tag s = .next t := ended
    simp only [execRestartPortDock] at ended
    split at ended <;> obtain rfl := Host.Outcome.next.inj ended
    · rw [answerOk_eq, answer_dlc]
      exact restartDock_requeued (s.took (.restartPortDock tag))
    · rw [answerStatus_eq, answer_dlc]
      exact .inl rfl
  case clearDockError tag =>
    obtain rfl := Host.Outcome.next.inj ended
    rw [answerOk_eq, answer_dlc]
    exact .inl rfl
  case writeRowsMountBase tag start count rows =>
    obtain rfl := Host.Outcome.next.inj ended
    obtain ⟨_, _, _, _, given⟩ | ⟨rs, _, _, _, _, -, given⟩ := answerRows_cases (.writeRowsMountBase tag start count rows)
      tag (checkRows readMount 10 1 start count rows) writeMountBase (s.took (.writeRowsMountBase tag start count rows))
    · rw [given, answer_dlc]
      exact .inl rfl
    · rw [given, answer_dlc]
      cases rs <;> exact .inl rfl
  case setParam tag id value =>
    obtain ⟨_, _, _, _, rfl⟩ | ⟨p, _, _, _, _, rfl⟩ := exec_setParam_cases ended
    · rw [answer_dlc]
      exact .inl rfl
    · rw [answer_dlc]
      exact .inl (apply_dlcQueue _ _ p)
  all_goals simp [touches] at touching

/-- A property of the dock's queue that each of these changes keeps is kept by every step. -/
theorem dockQueue_step {Q : List DockItem → Prop} (empty : Q []) (kept : ∀ q q', Q q → requeued q q' → Q q') :
    ∀ s t : State, Q s.dlc.queue → step s = .next t → Q t.dlc.queue := by
  refine step_keeps (P := fun s => Q s.dlc.queue) [.dlc] (fun s t same h => ?_) (fun t reset => ?_)
    (fun c s t touched h ended => ?_)
  · have dlc : t.dlc = s.dlc := same .dlc (by simp)
    exact dlc ▸ h
  · obtain ⟨-, -, -, -, -, ⟨stray, dlc⟩, -⟩ := reset
    rw [dlc]
    exact empty
  · obtain ⟨b, hb, touching⟩ := touched
    obtain rfl : b = .dlc := by simpa using hb
    exact kept _ _ h (exec_requeued touching ended)

/-! ### The bounds -/

theorem afterUnconsumed_cons (i : DockItem) (rest : List DockItem) :
    afterUnconsumed (i :: rest) = if 7 ≤ i.offers then rest else { i with offers := i.offers + 1 } :: rest := rfl

theorem afterUnconsumed_length (q : List DockItem) : (afterUnconsumed q).length ≤ q.length := by
  cases q with
  | nil => simp [afterUnconsumed]
  | cons i rest =>
    rw [afterUnconsumed_cons]
    split <;> simp

theorem requeued.length_le {q q' : List DockItem} (h : requeued q q') (bound : q.length ≤ 4) : q'.length ≤ 4 := by
  have unconsumed := afterUnconsumed_length q
  obtain rfl | rfl | rfl | rfl | ⟨bytes, room, rfl⟩ := h
  · exact bound
  · simp only [List.length_tail]
    omega
  · omega
  · simp
  · simpa using room

theorem requeued.offers_lt {q q' : List DockItem} (h : requeued q q') (bound : ∀ i ∈ q, i.offers < 8) :
    ∀ i ∈ q', i.offers < 8 := by
  obtain rfl | rfl | rfl | rfl | ⟨bytes, room, rfl⟩ := h
  · exact bound
  · exact fun i hi => bound i (List.mem_of_mem_tail hi)
  · cases q with
    | nil => simp [afterUnconsumed]
    | cons i rest =>
      have rest_lt : ∀ j ∈ rest, j.offers < 8 := fun j hj => bound j (List.mem_cons_of_mem _ hj)
      rw [afterUnconsumed_cons]
      split
      · exact rest_lt
      · next below =>
        intro j hj
        obtain rfl | hj := List.mem_cons.mp hj
        · simp only
          omega
        · exact rest_lt j hj
  · simp
  · intro i hi
    obtain hi | hi := List.mem_append.mp hi
    · exact bound i hi
    · obtain rfl := List.mem_singleton.mp hi
      simp

theorem Hlm.bounded_invariant : HlmInvariant fun h => h.queue.length ≤ 8 where
  same h queue _ _ _ := queue ▸ h
  left head h := by
    simp only [List.length_tail]
    omega
  joined f h room := by simpa using room
  on h _ _ := h
  off h _ := h
  reset fastLink rx gapTimer := by simp [hlmReset]

/-- Settles O8: the downstream queue is an invariant of the host link, and the dock's queue is changed by one of five
steps. -/
theorem downstreamBoundsKept : Obligations.DownstreamBoundsKept := by
  refine ⟨fun s t h ended => ⟨Hlm.bounded_invariant.step s t h.1 ended, ?_⟩, fun s t h ended => ?_⟩
  · exact dockQueue_step (by simp) (fun q q' bound changed => requeued.length_le changed bound) s t h.2 ended
  · exact dockQueue_step (Q := fun q => ∀ i ∈ q, i.offers < 8) (by simp)
      (fun q q' bound changed => requeued.offers_lt changed bound) s t h ended

end Sys2Proof.Machine
end

-- PROOFS: the line filters and the lid sensor port (chapter 1; O13, O14, O16), and the SOFT_RESET (O5).
section

namespace Sys2Proof.Machine

/-! ### The line filters (R1, R2) -/

/-- A pin's meaning under a line's polarity. -/
theorem bne_eq_active (f : LineFilter) (pinHigh : Bool) :
    (pinHigh != f.activeLow) = if f.activeLow then !pinHigh else pinHigh := by
  cases f.activeLow <;> cases pinHigh <;> rfl

theorem sample_agrees {f : LineFilter} {pinHigh : Bool} (h : (pinHigh != f.activeLow) = f.level) :
    f.sample pinHigh = ({ f with count := 0 }, none) := by
  simp [LineFilter.sample, h]

theorem sample_counts {f : LineFilter} {pinHigh : Bool} (h : (pinHigh != f.activeLow) ≠ f.level)
    (below : f.count + 1 < f.stages) : f.sample pinHigh = ({ f with count := f.count + 1 }, none) := by
  simp [LineFilter.sample, h, below]

theorem sample_changes {f : LineFilter} {pinHigh : Bool} (h : (pinHigh != f.activeLow) ≠ f.level)
    (reached : f.stages ≤ f.count + 1) :
    f.sample pinHigh = ({ f with count := 0, level := pinHigh != f.activeLow }, some (pinHigh != f.activeLow)) := by
  simp [LineFilter.sample, h, Nat.not_lt.mpr reached]

/-- As long as the stage count is not reached, disagreeing samples are counted. -/
theorem iterate_sample_counts {f : LineFilter} {pinHigh : Bool} (start : f.count = 0)
    (h : (pinHigh != f.activeLow) ≠ f.level) :
    ∀ n < f.stages, (fun g : LineFilter => (g.sample pinHigh).1)^[n] f = { f with count := n } := by
  intro n below
  induction n with
  | zero =>
    obtain ⟨_, _, _, _⟩ := f
    subst start
    rfl
  | succ n ih =>
    rw [Function.iterate_succ_apply', ih (by omega)]
    have counted := sample_counts (f := { f with count := n }) (pinHigh := pinHigh) h below
    rw [counted]

/-- The sample that reaches the stage count turns the level. -/
theorem iterate_sample_turns {f : LineFilter} {pinHigh : Bool} (start : f.count = 0) (some_stage : 1 ≤ f.stages)
    (h : (pinHigh != f.activeLow) ≠ f.level) :
    (fun g : LineFilter => (g.sample pinHigh).1)^[f.stages] f = { f with level := !f.level, count := 0 } := by
  obtain ⟨n, stages⟩ := Nat.exists_eq_add_of_le' some_stage
  have counted := iterate_sample_counts start h n (by omega)
  have turned := sample_changes (f := { f with count := n }) (pinHigh := pinHigh) h (by simp [stages])
  have level : (pinHigh != f.activeLow) = !f.level := Bool.eq_not.mpr h
  rw [stages, Function.iterate_succ_apply', counted, turned, level]
  simp only [stages]

/-- A line event's deliveries, to its consumers and as a record (R2). -/
theorem lineEventOf_eq (line : Line) (change : Option Bool) (s : State) :
    lineEventOf line change s = { s with inflight := s.inflight ++ ((change.map fun b =>
      (match line with
        | .frontHall => [.haeHallEvent .front b s.partTime, .pclHallEvent .front b s.partTime]
        | .rearHall => [.haeHallEvent .rear b s.partTime, .pclHallEvent .rear b s.partTime]
        | .dockContact => [.dockContactEvent b s.partTime]
        | .penContact => [if b then .penInsertion s.partTime else .penRemoval s.partTime])
      ++ [Instr.recordOffer (.lineEvent line b (s.partTime.setWidth 16))]).getD []) } := by
  cases change with
  | none => simp [lineEventOf]
  | some b => cases line <;> rfl

/-- Settles O13: a filter's three cases, a run of samples by induction, and LIF_SAMPLE's deliveries in line order. -/
theorem linesFiltered : Obligations.LinesFiltered := by
  refine ⟨⟨fun f pinHigh => ?_, fun f pinHigh start some_stage h =>
    ⟨iterate_sample_counts start h, iterate_sample_turns start some_stage h⟩⟩, fun front rear dock pen s => ?_⟩
  · intro active
    have hactive : (pinHigh != f.activeLow) = active := bne_eq_active f pinHigh
    refine ⟨fun agrees => sample_agrees (hactive.trans agrees), fun differs below => sample_counts (hactive ▸ differs) below,
      fun differs reached => hactive ▸ sample_changes (hactive ▸ differs) reached, ?_⟩
    by_cases agrees : (pinHigh != f.activeLow) = f.level
    · simp [sample_agrees agrees]
    · by_cases below : f.count + 1 < f.stages
      · simp [sample_counts agrees below]
      · simp [sample_changes agrees (Nat.not_lt.mp below), agrees]
  · have arm : exec (.lifSample front rear dock pen) s = execLifSample front rear dock pen s := rfl
    simp only [arm, execLifSample, lineEventOf_eq]
    rfl

/-! ### The lid sensor port (R6 to R12) -/

/-- Settles O14: the timer, a GOOD read and a failing one. -/
theorem lidReads : Obligations.LidReads := by
  refine ⟨fun s due => ?_, fun x y z s reading => ?_, fun identity newData x y z s reading fails => ?_⟩
  · refine ⟨_, if_pos due, rfl, kept_setLsp s _, rfl⟩
  · have good : exec (.readCompletion s.lsp.mount.identity true x y z) s =
        .next (readGood ⟨x.toInt, y.toInt, z.toInt⟩ s) := by
      change execReadCompletion _ _ _ _ _ s = _
      simp [execReadCompletion, reading, readOutcome]
    exact ⟨_, good, rfl, kept_lsp s _ _, rfl⟩
  · intro outcome
    have failed : exec (.readCompletion identity newData x y z) s = .next (readFailed outcome s) := by
      change execReadCompletion _ _ _ _ _ s = _
      by_cases differs : identity = s.lsp.mount.identity
      · have stale : newData = false := fails.resolve_left (not_not_intro differs)
        simp [execReadCompletion, reading, readOutcome, differs, stale, outcome]
      · simp [execReadCompletion, reading, readOutcome, differs, outcome]
    refine ⟨_, failed, readFailed_kept outcome s, fun below => ?_, fun reached => ?_⟩
    · have below : s.lsp.streak + 1 < 3 := by omega
      simp [readFailed, below]
    · have reached : ¬ s.lsp.streak + 1 < 3 := by omega
      simp [readFailed, reached, State.stamp]

/-- A request whose arm answers it from `u`. -/
theorem answered {c : Instr} {tag code : Byte} {status : Status} {row : Byte} {data : List Byte} {s u : State}
    (arm : exec c s = .next (answer c tag code status row data u)) :
    ∃ t, exec c s = .next t ∧ replied c tag code status row data u t :=
  ⟨_, arm, answer_replied c tag code status row data u⟩

/-- Settles O16: PORT_OFF by port and port state, and RESTART_PORT. -/
theorem lidPortRequests : Obligations.LidPortRequests := by
  refine ⟨fun tag s on => ?_, fun tag s off => ?_, fun tag port s other => ?_, fun tag s => answered rfl⟩
  · have turned : turnOff (s.took (.portOff tag 0)) =
        ((s.took (.portOff tag 0)).setLsp { s.lsp with port := .off, timer := .cancelled, reading := false }).emits
          [.portStateDelivery .off] := if_neg on
    exact answered (turned ▸ rfl)
  · have kept : turnOff (s.took (.portOff tag 0)) = s.took (.portOff tag 0) := if_pos off
    exact answered (congrArg (fun u => Host.Outcome.next (answerOk (.portOff tag 0) tag 0x0D u)) kept)
  · exact answered (if_neg other)

/-! ### SOFT_RESET (R181) -/

/-- With an empty queue no frame begins. -/
theorem tryBegin_of_empty {s : State} (h : s.ufe.queue = []) : tryBegin s = s := by
  simp [tryBegin, h, oldest]

/-- A loss that waits is settled by the reset once the transmitter is idle. -/
theorem settleLoss_of_lost {s : State} (idle : s.ufe.sending = none) (loses : s.ufe.finalLost ≠ none) :
    settleLoss s = afterSoftReset s := by
  obtain ⟨tag, lost⟩ := Option.ne_none_iff_exists'.mp loses
  rw [settleLoss, lost, idle]
  exact softResetCarriedOut_eq _

/-- The completion of the final RESPONSE, or of the frame behind which its loss waits, carries out the reset. -/
theorem execFrameCompletion_of_last {s : State} {x : Sending} (sending : s.ufe.sending = some x)
    (last : x.frame.final = true ∨ s.ufe.finalLost ≠ none) : execFrameCompletion s = .next (afterSoftReset s) := by
  simp only [execFrameCompletion, sending]
  split
  · rw [softResetCarriedOut_eq]
    rfl
  · next other =>
    have loses := last.resolve_left other
    rw [settleLoss_of_lost (s := s.setUfe { s.ufe with sending := none }) rfl loses]
    exact congrArg _ (tryBegin_of_empty rfl)

/-- Settles O5: the request at the head, and the completion that carries the reset out. -/
theorem softReset : Obligations.SoftReset := by
  refine ⟨fun tag s head => ?_, fun s x sending last => execFrameCompletion_of_last sending last⟩
  have arm : exec (.softReset tag) s = .next (popHead ((s.took (.softReset tag)).offer
      (.response tag 0x0E .ok 0xFF [] true)) .resetting) := congrArg Host.Outcome.next (if_pos head)
  exact ⟨_, arm, by simp [kept, popHead], rfl, rfl⟩

end Sys2Proof.Machine
end

-- PROOFS: the exchanges of the dock link, and the records of a GOOD answer (chapter 2; O17, O18, O20, O21).
section

namespace Sys2Proof.Machine

/-! ### Polls and the wire (R18, R19) -/

theorem pollWire_eq (poll : Byte) (q : List DockItem) :
    pollWire poll (q.head?.map DockItem.bytes) =
      let body : List Byte := poll :: match q with
        | [] => [0xFF]
        | item :: _ => BitVec.ofNat 8 item.bytes.length :: item.bytes
      0xA5 :: body ++ [crc8 body] := by
  cases q <;> rfl

theorem exec_pollTimerExpiry_of_exchange {s : State} (due : s.dlc.pollTimer.due s.partTime = true)
    (busy : s.dlc.exchange ≠ none) : exec .pollTimerExpiry s = .next (s.setDlc { s.dlc with
      pollTimer := s.timer (if s.dlc.state = .mute then 8 * s.dlc.pollPeriod else s.dlc.pollPeriod) }) := by
  obtain ⟨e, exchange⟩ := Option.ne_none_iff_exists'.mp busy
  change execPollTimerExpiry s = _
  simp [execPollTimerExpiry, due, exchange]

theorem exec_pollTimerExpiry_of_none {s : State} (due : s.dlc.pollTimer.due s.partTime = true)
    (idle : s.dlc.exchange = none) : exec .pollTimerExpiry s = .next (s.setDlc { s.dlc with
      pollTimer := s.timer (if s.dlc.state = .mute then 8 * s.dlc.pollPeriod else s.dlc.pollPeriod)
      wire := pollWire s.dlc.nextPoll (s.dlc.queue.head?.map DockItem.bytes)
      nextPoll := s.dlc.nextPoll + 1
      exchange := some { poll := s.dlc.nextPoll, riding := !s.dlc.queue.isEmpty, answering := false
                         timeout := s.dlc.answerTimeout } }) := by
  change execPollTimerExpiry s = _
  simp [execPollTimerExpiry, due, idle]

/-- Settles O17: a due poll timer with and without an exchange, and wire activity by exchange and stray note. -/
theorem pollsAndWire : Obligations.PollsAndWire := by
  refine ⟨fun s due => ?_, fun e s busy => ?_, fun s idle => ?_, fun bytes s idle => ?_, fun bytes s stray => ?_,
    fun e s busy answering => ?_⟩
  · intro ms timer body
    by_cases idle : s.dlc.exchange = none
    · refine ⟨_, exec_pollTimerExpiry_of_none due idle, kept_setDlc s _, rfl, fun busy => absurd idle busy, fun _ => ?_⟩
      have riding : (!s.dlc.queue.isEmpty) = decide (s.dlc.queue ≠ []) := by cases s.dlc.queue <;> rfl
      rw [State.setDlc_dlc, pollWire_eq, riding]
      rfl
    · exact ⟨_, exec_pollTimerExpiry_of_exchange due idle, kept_setDlc s _, rfl, fun _ => rfl, fun none => absurd none idle⟩
  · change execAnswerBegin s = _
    simp [execAnswerBegin, busy]
  · change execAnswerBegin s = _
    simp [execAnswerBegin, idle]
  · change execAnswerEnd bytes s = _ ∧ execAnswerCutoff s = _
    by_cases stray : s.dlc.stray = true
    · exact ⟨if_pos stray, if_pos stray⟩
    · have same : s.setDlc { s.dlc with stray := false } = s := by
        simp only [Bool.not_eq_true] at stray
        rw [← stray]
        rfl
      rw [same]
      simp [execAnswerEnd, execAnswerCutoff, stray, idle]
  · exact ⟨if_pos stray, if_pos stray⟩
  · change execAnswerTimeout s = _
    simp [execAnswerTimeout, busy, answering]

/-! ### The riding item (R32) -/

theorem atOfferLimit_eq (s : State) : atOfferLimit s = s.dlc.queue.head?.any fun i => 7 ≤ i.offers := by
  unfold atOfferLimit
  cases s.dlc.queue <;> simp

/-- The offer of a riding item is counted; at the limit the item is discarded. -/
theorem rideCounted_eq (riding : Bool) (s : State) : (if riding then countUnconsumed s else s) = { s with
    dlc := { s.dlc with
      queue := if riding then afterUnconsumed s.dlc.queue else s.dlc.queue
      undelivered := if riding && atOfferLimit s then satAdd 255 s.dlc.undelivered 1 else s.dlc.undelivered }
    inflight := s.inflight ++ if riding && atOfferLimit s then [.dockRoomNotice] else [] } := by
  cases riding
  · simp
  · simp [countUnconsumed_eq]

/-! ### A failed exchange (R21, R26) -/

/-- An exchange that fails without reaching the miss limit. -/
theorem exchangeFailed_of_below {kind : FailKind} {e : Exchange} {s : State}
    (below : ¬ (s.dlc.state = .attached ∧ s.dlc.missLimit ≤ min 255 (s.dlc.missStreak + 1))) :
    let given := e.riding && atOfferLimit s
    exchangeFailed kind e s = { s with
      dlc := { s.dlc with
        exchange := none, missStreak := min 255 (s.dlc.missStreak + 1), lastError := some ⟨kind, e.poll, s.partTime⟩
        queue := if e.riding then afterUnconsumed s.dlc.queue else s.dlc.queue
        undelivered := if given then 0 else s.dlc.undelivered }
      inflight := s.inflight ++ (if given then [.dockRoomNotice] else [])
        ++ if given then [.recordOffer (.dockEvent .itemsDropped s.dlc.state (min 255 (s.dlc.undelivered + 1)) s.stamp)]
          else [] } := by
  intro given
  simp only [exchangeFailed, rideCounted_eq]
  refine (if_neg below).trans ?_
  cases hg : (e.riding && atOfferLimit s) <;> simp [given, hg, reportDropped, dockEvent_eq, State.setDlc, satAdd, State.stamp]

/-- An exchange that fails at the miss limit: entry to MUTE. -/
theorem exchangeFailed_of_limit {kind : FailKind} {e : Exchange} {s : State}
    (limit : s.dlc.state = .attached ∧ s.dlc.missLimit ≤ min 255 (s.dlc.missStreak + 1)) :
    let given := e.riding && atOfferLimit s
    let draw := if s.dlc.statusSeen then s.dlc.statusDraw else s.dlc.defaultDraw
    exchangeFailed kind e s = { s with
      dlc := { s.dlc with
        exchange := none, missStreak := min 255 (s.dlc.missStreak + 1), lastError := some ⟨kind, e.poll, s.partTime⟩
        queue := if e.riding then afterUnconsumed s.dlc.queue else s.dlc.queue
        undelivered := 0, state := .mute, draw := draw }
      inflight := s.inflight ++ (if given then [.dockRoomNotice] else [])
        ++ ([.haeDockStateDelivery .mute, .pclDockStateDelivery .mute]
          ++ (if draw = s.dlc.draw then [] else [.drawDelivery draw])
          ++ [.recordOffer (.dockEvent .mute .mute (if given then min 255 (s.dlc.undelivered + 1) else s.dlc.undelivered)
            s.stamp)]) } := by
  intro given draw
  simp only [exchangeFailed, rideCounted_eq]
  refine (if_pos limit).trans ?_
  rw [enterMute_eq]
  simp [limit.1, State.setDlc, satAdd, State.stamp, given, draw]

/-- The three commands that end an exchange as a failure. -/
theorem exec_failed {c : Instr} {kind : FailKind} {e : Exchange} {s : State} (busy : s.dlc.exchange = some e)
    (fails : c = .answerTimeout ∧ kind = .miss ∧ e.answering = false
      ∨ c = .answerCutoff ∧ kind = .corrupt ∧ s.dlc.stray = false
      ∨ ∃ bytes, c = .answerEnd bytes ∧ s.dlc.stray = false ∧ classifyAnswer e.poll bytes = .failed kind) :
    exec c s = .next (exchangeFailed kind e s) := by
  obtain ⟨rfl, rfl, waiting⟩ | ⟨rfl, rfl, clear⟩ | ⟨bytes, rfl, clear, failed⟩ := fails
  · change execAnswerTimeout s = _
    simp [execAnswerTimeout, busy, waiting]
  · change execAnswerCutoff s = _
    simp [execAnswerCutoff, busy, clear]
  · change execAnswerEnd bytes s = _
    simp [execAnswerEnd, busy, clear, failed]

/-- Settles O18: an end below the miss limit, and one that enters MUTE. -/
theorem exchangeFails : Obligations.ExchangeFails := by
  intro c kind e s busy fails given count streak muted draw ts
  have hgiven : (e.riding && atOfferLimit s) = given := by rw [atOfferLimit_eq]
  refine ⟨_, exec_failed busy fails, exchangeFailed_kept kind e s, ?_⟩
  by_cases limit : s.dlc.state = .attached ∧ s.dlc.missLimit ≤ min 255 (s.dlc.missStreak + 1)
  · have hmuted : muted = true := decide_eq_true limit
    rw [exchangeFailed_of_limit limit, hgiven]
    simp only [hmuted, draw, not_true, if_false, if_true, true_or, streak, count]
    exact ⟨trivial, rfl⟩
  · have hmuted : muted = false := decide_eq_false limit
    rw [exchangeFailed_of_below limit, hgiven]
    cases hg : given <;> simp [hmuted, hg, draw, streak, count, State.stamp, ts]

/-! ### The records of a GOOD answer (R36, R38, R40) -/

/-- A KEY record under PASS is forwarded and recorded as held. -/
theorem handleKey_of_pass {modifier : Byte} {codes : List Byte} {s : State} (pass : s.dlc.keyGate = .pass) :
    handleKey modifier codes s = { s with
      dlc := { s.dlc with heldModifier := modifier, heldCodes := codes }
      inflight := s.inflight ++ .recordOffer (.key false modifier codes s.stamp)
        :: if modifier = 0 ∧ codes = [] then [] else [.keyOccurrence] } := by
  by_cases released : modifier = 0 ∧ codes = []
  · simp [handleKey, pass, released, State.offer, State.emit, State.emits, State.setDlc]
  · have held : modifier ≠ 0 ∨ codes ≠ [] := by tauto
    simp only [handleKey, pass, if_pos held, if_neg released]
    simp [State.offer, State.emit, State.emits, State.setDlc]

/-- A POINTER record under PASS is forwarded and recorded as held. -/
theorem handlePointer_of_pass {dx dy : Byte} {buttons : BitVec 3} {wheel : Byte} {s : State}
    (pass : s.dlc.pointerGate = .pass) :
    handlePointer dx dy buttons wheel s = { s with
      dlc := { s.dlc with heldButtons := buttons }
      inflight := s.inflight ++ .recordOffer (.pointer false dx dy buttons wheel s.stamp)
        :: if dx = 0 ∧ dy = 0 ∧ buttons = 0 ∧ wheel = 0 then [] else [.pointerOccurrence] } := by
  by_cases still : dx = 0 ∧ dy = 0 ∧ buttons = 0 ∧ wheel = 0
  · simp [handlePointer, pass, still, State.offer, State.emit, State.emits, State.setDlc]
  · have moved : dx ≠ 0 ∨ dy ≠ 0 ∨ wheel ≠ 0 ∨ buttons ≠ 0 := by tauto
    simp only [handlePointer, pass, if_pos moved, if_neg still]
    simp [State.offer, State.emit, State.emits, State.setDlc]

/-- What a record leaves of the bookkeeping of the dock link. -/
def sameBooks (s t : State) : Prop :=
  t.dlc.state = s.dlc.state ∧ t.dlc.exchange = s.dlc.exchange ∧ t.dlc.missStreak = s.dlc.missStreak
  ∧ t.dlc.lastError = s.dlc.lastError ∧ t.dlc.queue = s.dlc.queue ∧ t.dlc.undelivered = s.dlc.undelivered
  ∧ t.partTime = s.partTime

theorem sameBooks.trans {s t u : State} (h : sameBooks s t) (h' : sameBooks t u) : sameBooks s u := by
  obtain ⟨state, exchange, missStreak, lastError, queue, undelivered, time⟩ := h
  obtain ⟨state', exchange', missStreak', lastError', queue', undelivered', time'⟩ := h'
  exact ⟨state'.trans state, exchange'.trans exchange, missStreak'.trans missStreak, lastError'.trans lastError,
    queue'.trans queue, undelivered'.trans undelivered, time'.trans time⟩

theorem handleRecord_sameBooks (s : State) (r : DockRecord) : sameBooks s (handleRecord s r) := by
  cases r with
  | key modifier codes =>
    cases gate : s.dlc.keyGate with
    | block => simp [handleRecord, handleKey, gate, sameBooks]
    | pass =>
      rw [handleRecord, handleKey_of_pass gate]
      exact ⟨rfl, rfl, rfl, rfl, rfl, rfl, rfl⟩
  | pointer dx dy buttons wheel =>
    cases gate : s.dlc.pointerGate with
    | block => simp [handleRecord, handlePointer, gate, sameBooks]
    | pass =>
      rw [handleRecord, handlePointer_of_pass gate]
      exact ⟨rfl, rfl, rfl, rfl, rfl, rfl, rfl⟩
  | baseMotion x y z newData =>
    simp only [handleRecord, handleBaseMotion]
    split <;> exact ⟨rfl, rfl, rfl, rfl, rfl, rfl, rfl⟩
  | status draw identity faultBits =>
    simp only [handleRecord, handleStatus, recomputeDraw_eq]
    exact ⟨rfl, rfl, rfl, rfl, rfl, rfl, rfl⟩

theorem foldl_handleRecord_sameBooks (records : List DockRecord) (s : State) :
    sameBooks s (records.foldl handleRecord s) := by
  induction records generalizing s with
  | nil => exact ⟨rfl, rfl, rfl, rfl, rfl, rfl, rfl⟩
  | cons r records ih => exact (handleRecord_sameBooks s r).trans (ih _)

/-! ### A GOOD exchange (R22) -/

/-- Step 1 of R22. -/
theorem settleItem_eq (riding consumed : Bool) (s : State) :
    let given := riding && !consumed && atOfferLimit s
    let left := riding && consumed && s.dlc.queue ≠ []
    settleItem riding consumed s = { s with
      dlc := { s.dlc with
        undelivered := if given then min 255 (s.dlc.undelivered + 1) else s.dlc.undelivered
        queue := if riding then (if consumed then s.dlc.queue.tail else afterUnconsumed s.dlc.queue) else s.dlc.queue }
      inflight := s.inflight ++ if given ∨ left then [.dockRoomNotice] else [] } := by
  intro given left
  cases riding
  · simp [settleItem, given, left]
  cases consumed
  · simp [settleItem, countUnconsumed_eq, given, left, satAdd]
  · by_cases empty : s.dlc.queue = []
    · have stays : settleItem true true s = s := by simp [settleItem, empty]
      have tail : s.dlc.queue.tail = s.dlc.queue := by rw [empty]; rfl
      have none_left : left = false := by simp [left, empty]
      have none_given : given = false := by simp [given]
      rw [stays, none_left, none_given]
      simp [tail]
    · simp [settleItem, empty, popItem_eq, given, left]

theorem exec_good {bytes : List Byte} {consumed : Bool} {records : List DockRecord} {e : Exchange} {s : State}
    (busy : s.dlc.exchange = some e) (clear : s.dlc.stray = false)
    (good : classifyAnswer e.poll bytes = .good consumed records) :
    exec (.answerEnd bytes) s = .next (exchangeGood e consumed records s) := by
  change execAnswerEnd bytes s = _
  simp [execAnswerEnd, busy, clear, good]

/-- Steps 1 and 2 of R22: the riding item is settled and the exchange ends. -/
def goodSettled (e : Exchange) (consumed : Bool) (s : State) : State :=
  let given := e.riding && !consumed && atOfferLimit s
  let left := e.riding && consumed && s.dlc.queue ≠ []
  { s with
    dlc := { s.dlc with
      exchange := none, missStreak := 0
      undelivered := if given then min 255 (s.dlc.undelivered + 1) else s.dlc.undelivered
      queue := if e.riding then (if consumed then s.dlc.queue.tail else afterUnconsumed s.dlc.queue) else s.dlc.queue }
    inflight := s.inflight ++ if given ∨ left then [.dockRoomNotice] else [] }

theorem exchangeGood_eq (e : Exchange) (consumed : Bool) (records : List DockRecord) (s : State) :
    exchangeGood e consumed records s =
      let a := attachStep records (goodSettled e consumed s)
      reportDropped ((e.riding && !consumed && atOfferLimit s) && !a.2)
        (if a.1.dlc.state = .attached then records.foldl handleRecord a.1 else a.1) := by
  unfold exchangeGood
  rw [settleItem_eq]
  rfl

/-- Step 3 of R22 where the dock becomes ATTACHED: the state after its DOCK_EVENT and what follows it. -/
def entered (kind : DockEventKind) (attachTimer : Timer) (more : List Instr) (s : State) : State :=
  let draw := if s.dlc.statusSeen then s.dlc.statusDraw else s.dlc.defaultDraw
  { s with
    dlc := { s.dlc with
      state := .attached, attachTimer := attachTimer, announced := true, draw := draw, undelivered := 0 }
    inflight := s.inflight ++ [.haeDockStateDelivery .attached, .pclDockStateDelivery .attached]
      ++ (if draw = s.dlc.draw then [] else [.drawDelivery draw])
      ++ [.recordOffer (.dockEvent kind .attached s.dlc.undelivered s.stamp)] ++ more }

theorem attachStep_of_status {records : List DockRecord} {s : State} (state : s.dlc.state = .attaching)
    (status : records.any DockRecord.isStatus = true) : attachStep records s =
      (entered .attached .cancelled [.dockAttach, .triggerDelivery .dockAttached] s, true) := by
  simp only [attachStep, state, status, if_true, announce, recomputeDraw_eq, setDockState_eq, dockEvent_eq]
  simp [entered, Dlc.budget, State.emits, State.setDlc]
  exact ⟨rfl, rfl⟩

theorem attachStep_of_mute {records : List DockRecord} {s : State} (state : s.dlc.state = .mute) :
    attachStep records s = (if s.dlc.announced then entered .recovered s.dlc.attachTimer [] s
      else entered .attached s.dlc.attachTimer [.dockAttach, .triggerDelivery .dockAttached] s, true) := by
  cases first : s.dlc.announced <;>
    simp [attachStep, state, first, announce, recomputeDraw_eq, setDockState_eq, dockEvent_eq, entered, Dlc.budget,
      State.emits, State.setDlc, State.stamp]

theorem attachStep_of_other {records : List DockRecord} {s : State}
    (other : s.dlc.state = .attaching ∧ records.any DockRecord.isStatus = false
      ∨ s.dlc.state = .attached ∨ s.dlc.state = .absent ∨ s.dlc.state = .unpowered) :
    attachStep records s = (s, false) := by
  obtain ⟨state, status⟩ | state | state | state := other
  · simp [attachStep, state, status]
  all_goals simp [attachStep, state]

/-- A discard that no other DOCK_EVENT reports (R33). -/
theorem reportDropped_eq (dropped : Bool) (s : State) : reportDropped dropped s =
    if ¬ dropped then s else { s with
      dlc := { s.dlc with undelivered := 0 }
      inflight := s.inflight ++ [.recordOffer (.dockEvent .itemsDropped s.dlc.state s.dlc.undelivered s.stamp)] } := by
  cases dropped <;> rfl

/-- Settles O20: a GOOD answer in each dock state. -/
theorem exchangeGood_outcome : Obligations.ExchangeGood := by
  intro bytes consumed records e s busy clear good given left count ts settled draw entered' told reported
  have hgiven : (e.riding && !consumed && atOfferLimit s) = given := by rw [atOfferLimit_eq]
  have hsettled : goodSettled e consumed s = settled := by
    unfold goodSettled
    rw [hgiven]
  have hdrop (u : State) (books : sameBooks settled u) : reportDropped given u = reported u := by
    obtain ⟨state, -, -, -, -, undelivered, time⟩ := books
    have stamp : u.stamp = ts := congrArg (fun now : PartTime => now.setWidth 16) time
    rw [reportDropped_eq, state, undelivered, stamp]
  have closed := exchangeGood_eq e consumed records s
  rw [hgiven, hsettled] at closed
  refine ⟨_, exec_good busy clear good, exchangeGood_kept e consumed records s, ?_⟩
  have handled (v : State) := foldl_handleRecord_sameBooks records v
  have reported_books (u : State) : (reported u).dlc.exchange = u.dlc.exchange ∧ (reported u).dlc.missStreak = u.dlc.missStreak
      ∧ (reported u).dlc.lastError = u.dlc.lastError ∧ (reported u).dlc.queue = u.dlc.queue
      ∧ (reported u).dlc.state = u.dlc.state := by
    cases hg : given <;> simp [reported, hg]
  have unattached (state : s.dlc.state ≠ .attached) (other : s.dlc.state = .attaching ∧ records.any DockRecord.isStatus = false
      ∨ s.dlc.state = .attached ∨ s.dlc.state = .absent ∨ s.dlc.state = .unpowered) :
      exchangeGood e consumed records s = reported settled := by
    rw [attachStep_of_other (s := settled) other] at closed
    rw [closed, ← hdrop settled ⟨rfl, rfl, rfl, rfl, rfl, rfl, rfl⟩]
    have still : settled.dlc.state ≠ .attached := state
    simp [still]
  cases state : s.dlc.state with
  | attaching =>
    cases status : records.any DockRecord.isStatus with
    | true =>
      rw [attachStep_of_status (s := settled) state status] at closed
      have result : exchangeGood e consumed records s = records.foldl handleRecord (entered' .attached .cancelled told) := by
        rw [closed]
        simp [reportDropped]
        rfl
      obtain ⟨st, exchange, missStreak, lastError, queue, -⟩ := handled (entered' .attached .cancelled told)
      rw [result]
      refine ⟨exchange, missStreak, lastError, queue, st, fun _ _ => rfl, ?_⟩
      simp
    | false =>
      obtain ⟨exchange, missStreak, lastError, queue, st⟩ := reported_books settled
      rw [unattached (by simp [state]) (.inl ⟨state, status⟩)]
      refine ⟨exchange, missStreak, lastError, queue, st.trans state, ?_⟩
      simp
  | mute =>
    rw [attachStep_of_mute (s := settled) state] at closed
    cases first : s.dlc.announced with
    | false =>
      have result : exchangeGood e consumed records s =
          records.foldl handleRecord (entered' .attached s.dlc.attachTimer told) := by
        rw [closed, if_neg (by simpa using first)]
        simp [reportDropped]
        rfl
      obtain ⟨st, exchange, missStreak, lastError, queue, -⟩ := handled (entered' .attached s.dlc.attachTimer told)
      rw [result]
      refine ⟨exchange, missStreak, lastError, queue, st, ?_⟩
      simp
    | true =>
      have result : exchangeGood e consumed records s =
          records.foldl handleRecord (entered' .recovered s.dlc.attachTimer []) := by
        rw [closed, if_pos (by simpa using first)]
        simp [reportDropped]
        rfl
      obtain ⟨st, exchange, missStreak, lastError, queue, -⟩ := handled (entered' .recovered s.dlc.attachTimer [])
      rw [result]
      refine ⟨exchange, missStreak, lastError, queue, st, ?_⟩
      simp
  | attached =>
    rw [attachStep_of_other (s := settled) (.inr (.inl state))] at closed
    have result : exchangeGood e consumed records s = reported (records.foldl handleRecord settled) := by
      rw [closed, ← hdrop _ (handled settled)]
      have attached : settled.dlc.state = .attached := state
      simp [attached]
    obtain ⟨exchange, missStreak, lastError, queue, st⟩ := reported_books (records.foldl handleRecord settled)
    obtain ⟨st', exchange', missStreak', lastError', queue', -⟩ := handled settled
    rw [result]
    refine ⟨exchange.trans exchange', missStreak.trans missStreak', lastError.trans lastError', queue.trans queue',
      st.trans (st'.trans state), ?_⟩
    simp
  | absent =>
    obtain ⟨exchange, missStreak, lastError, queue, st⟩ := reported_books settled
    rw [unattached (by simp [state]) (.inr (.inr (.inl state)))]
    refine ⟨exchange, missStreak, lastError, queue, st.trans state, ?_⟩
    simp
  | unpowered =>
    obtain ⟨exchange, missStreak, lastError, queue, st⟩ := reported_books settled
    rw [unattached (by simp [state]) (.inr (.inr (.inr state)))]
    refine ⟨exchange, missStreak, lastError, queue, st.trans state, ?_⟩
    simp

/-- Settles O21: each kind of record, and a whole answer without a riding item. -/
theorem dockRecordsHandled : Obligations.DockRecordsHandled := by
  unfold Obligations.DockRecordsHandled
  intro handled
  have one (r : DockRecord) (s : State) (attached : s.dlc.state = .attached) : handled r s (handleRecord s r) := by
    refine ⟨handleRecord_kept s r, ?_⟩
    cases r with
    | key modifier codes =>
      cases gate : s.dlc.keyGate with
      | block => simp [handleRecord, handleKey, gate]
      | pass =>
        simp only [handleRecord, handleKey_of_pass gate]
        simp [State.stamp, gate]
    | pointer dx dy buttons wheel =>
      cases gate : s.dlc.pointerGate with
      | block => simp [handleRecord, handlePointer, gate]
      | pass =>
        simp only [handleRecord, handlePointer_of_pass gate]
        simp [State.stamp, gate]
    | baseMotion x y z newData =>
      by_cases mapped : newData = true ∧ s.dlc.idMatch = .matched
      · simp [handleRecord, handleBaseMotion, mapped, State.stamp]
      · simp [handleRecord, handleBaseMotion, mapped]
    | status draw identity faultBits =>
      simp [handleRecord, handleStatus, recomputeDraw_eq, Dlc.budget, attached, matchOf, State.stamp]
  refine ⟨fun bytes consumed records e s busy riding clear attached good => ?_, fun r s attached =>
    ⟨one r s attached, (handleRecord_sameBooks s r).1.trans attached⟩⟩
  intro s0
  have alone : exchangeGood e consumed records s = records.foldl handleRecord s0 := by
    have settled : goodSettled e consumed s = s0 := by
      simp [goodSettled, riding, s0, State.setDlc]
    rw [exchangeGood_eq, settled, attachStep_of_other (s := s0) (.inr (.inl attached))]
    simp [riding, reportDropped, s0, attached]
  refine ⟨_, exec_good busy clear good, exchangeGood_kept e consumed records s, alone, ?_⟩
  rintro r rfl
  have single := one r s0 attached
  rw [alone]
  exact single

end Sys2Proof.Machine
end

-- PROOFS: the dock's arrival and departure, its gates, items and requests (chapter 2; O22 to O26).
section

namespace Sys2Proof.Machine

/-! ### Arrival (R24, R25) -/

/-- A command whose delivery leaves flight and whose rule touches the dock link alone. -/
theorem kept_took_dlc {c : Instr} {s t : State} (h : kept [.dlc] (s.took c) t) : kept [.dlc] s t :=
  (kept_took [.dlc] s c).trans h

/-- Settles O22: contact and AL0 by dock state, and the attach timer. -/
theorem dockArrives : Obligations.DockArrives := by
  refine ⟨fun c time s => ?_, fun on s recorded => ?_, fun s due attaching => ?_⟩
  · intro entered told
    refine ⟨?_, ?_⟩
    · rintro (⟨rfl, absent, al0⟩ | ⟨rfl, unpowered, al0⟩)
      · have arm : exec (.dockContactEvent true time) s = .next (enterAttaching (s.took (.dockContactEvent true time))) := by
          change execDockContactEvent true s time = _
          simp [execDockContactEvent, contactAsserted, absent, al0]
        refine ⟨_, arm, ?_, kept_took_dlc (enterAttaching_kept _), ?_⟩
        · rw [enterAttaching_eq]
          simp [entered, ← al0]
        · rw [enterAttaching_eq]
          simp [issued, told, absent]
          rfl
      · have arm : exec (.al0LevelDelivery true) s =
            .next (enterAttaching ((s.took (.al0LevelDelivery true)).setDlc { s.dlc with al0 := true })) := by
          change execAl0LevelDelivery true s = _
          simp [execAl0LevelDelivery, al0Changed, unpowered, al0]
        refine ⟨_, arm, ?_, kept_took_dlc ((kept_setDlc _ _).trans (enterAttaching_kept _)), ?_⟩
        · rw [enterAttaching_eq]
          rfl
        · rw [enterAttaching_eq]
          simp [issued, told, unpowered]
    · rintro ⟨rfl, absent, al0⟩
      have arm : exec (.dockContactEvent true time) s =
          .next ((setDockState .unpowered (s.took (.dockContactEvent true time))).emit .dockRoomNotice) := by
        change execDockContactEvent true s time = _
        simp [execDockContactEvent, contactAsserted, absent, al0]
      refine ⟨_, arm, ?_, kept_took_dlc ((setDockState_kept _ _).trans (kept_emit _ _ _)), ?_⟩
      · rw [setDockState_eq]
        rfl
      · rw [setDockState_eq]
        simp [issued, absent]
  · change execAl0LevelDelivery on s = _
    by_cases same : on = s.dlc.al0
    · simp [execAl0LevelDelivery, same, State.setDlc, State.took]
    · obtain same' | absent | ⟨off, unpowered⟩ | ⟨on', live⟩ := recorded
      · exact absurd same' same
      · cases on <;> simp [execAl0LevelDelivery, same, al0Changed, absent]
      · subst off
        simp [execAl0LevelDelivery, same, al0Changed, unpowered]
      · subst on'
        cases state : s.dlc.state <;> simp [DockState.live, state] at live <;>
          simp [execAl0LevelDelivery, same, al0Changed, state]
  · have arm : exec .attachTimerExpiry s = .next (enterMute (s.setDlc { s.dlc with attachTimer := .cancelled })) :=
      if_pos ⟨due, attaching⟩
    refine ⟨_, arm, (kept_setDlc _ _).trans (enterMute_kept _), ?_, ?_, ?_⟩ <;> rw [enterMute_eq] <;>
      simp [attaching, State.stamp]

/-! ### Departure (R28) -/

/-- An answer that has begun is ignored to its end once its exchange is abandoned (R19, R28). -/
theorem abandonExchange_eq (s : State) : abandonExchange s = s.setDlc { s.dlc with
    exchange := none, stray := s.dlc.stray || s.exchanging Exchange.answering } := by
  cases exchange : s.dlc.exchange <;> simp [abandonExchange, State.exchanging, exchange]

/-- What the teardown leaves, and its deliveries in the order of R28. -/
theorem teardown_eq (target : DockState) (kind : DockEventKind) (none : target = .absent ∨ target = .unpowered)
    (s : State) : teardown target kind s = { s with
      dlc := { s.dlc with
        state := target, exchange := .none, stray := s.dlc.stray || s.exchanging Exchange.answering
        pollTimer := .cancelled, attachTimer := .cancelled, queue := [], undelivered := 0, draw := 0
        identity := .none, idMatch := .unknown, heldModifier := 0, heldCodes := [], heldButtons := 0 }
      inflight := s.inflight ++ ([.dockRoomNotice, .baseInvalidation]
        ++ (if s.dlc.state = target then [] else [.haeDockStateDelivery target, .pclDockStateDelivery target])
        ++ (if s.dlc.draw = 0 then [] else [.drawDelivery 0])
        ++ [.recordOffer (.dockEvent kind target (min 255 (s.dlc.undelivered + s.dlc.queue.length)) s.stamp)]) } := by
  have drawn (d : Nat) : (0 = d) = (d = 0) := propext eq_comm
  obtain rfl | rfl := none <;>
    simp [teardown, abandonExchange_eq, setDockState_eq, recomputeDraw_eq, dockEvent_eq, Dlc.budget, State.setDlc,
      State.emits, satAdd, State.stamp, drawn]

/-- Settles O23: both teardowns. -/
theorem dockTornDown : Obligations.DockTornDown := by
  intro c time target kind al0 more s h
  obtain ⟨rfl, present, rfl, rfl, rfl, rfl⟩ | ⟨rfl, live, on, rfl, rfl, rfl, rfl⟩ := h
  · have arm : exec (.dockContactEvent false time) s = .next (detach (s.took (.dockContactEvent false time))) := by
      change execDockContactEvent false s time = _
      cases state : s.dlc.state <;> simp_all [execDockContactEvent, contactClear]
    refine ⟨_, arm, kept_took_dlc (detach_kept _), ?_, ?_⟩
    · rw [detach, teardown_eq _ _ (.inl rfl)]
      rfl
    · rw [detach, teardown_eq _ _ (.inl rfl)]
      simp [issued, State.emits, State.stamp]
      rfl
  · have arm : exec (.al0LevelDelivery false) s = .next (teardown .unpowered .unpowered
        ((s.took (.al0LevelDelivery false)).setDlc { s.dlc with al0 := false })) := by
      change execAl0LevelDelivery false s = _
      cases state : s.dlc.state <;> simp [DockState.live, state] at live <;>
        simp [execAl0LevelDelivery, al0Changed, state, on]
    refine ⟨_, arm, kept_took_dlc ((kept_setDlc _ _).trans (teardown_kept _ _ _)), ?_, ?_⟩
    · rw [teardown_eq _ _ (.inr rfl)]
      rfl
    · rw [teardown_eq _ _ (.inr rfl)]
      simp [issued, State.stamp]
      rfl

/-! ### Gates (R37) -/

/-- Settles O24: each gate, over held input and otherwise. -/
theorem gatesDelivered : Obligations.GatesDelivered := by
  intro value s key pointer keyHeld buttonHeld
  refine ⟨⟨_, rfl, kept_took_dlc (setKeyGate_kept _ _), fun held => ?_, fun released => ?_⟩,
    ⟨_, rfl, kept_took_dlc (setPointerGate_kept _ _), fun held => ?_, fun released => ?_⟩⟩
  · have closes : setKeyGate value (s.took key) = _ := if_pos held
    rw [closes]
    exact ⟨rfl, rfl⟩
  · have recorded : setKeyGate value (s.took key) = _ := if_neg released
    rw [recorded]
    exact ⟨rfl, by simp [issued]⟩
  · have closes : setPointerGate value (s.took pointer) = _ := if_pos held
    rw [closes]
    exact ⟨rfl, rfl⟩
  · have recorded : setPointerGate value (s.took pointer) = _ := if_neg released
    rw [recorded]
    exact ⟨rfl, by simp [issued]⟩

/-! ### Items (R31, R33, R175) -/

/-- A live dock with four items refuses one. -/
theorem handItem_of_full {item : List Byte} {s : State} (head : headIsItem item s = true)
    (full : s.dlc.state.live = true ∧ 4 ≤ s.dlc.queue.length) :
    handItem item s = s.setHlm { s.hlm with head := .waitingForDockRoom } := by
  simp [handItem, takesItem, full.1, full.2, head]

/-- An item that is taken, or discarded, leaves the head. -/
theorem handItem_of_takes {item : List Byte} {s : State} (head : headIsItem item s = true)
    (takes : takesItem s = true) : handItem item s = departHead (takeItem item s) := by
  simp [handItem, takes, head]

/-- Settles O25: an item taken, refused and discarded, at the head of the downstream queue. -/
theorem itemsHanded : Obligations.ItemsHanded := by
  refine ⟨rfl, ?_⟩
  intro f rest s item front c h left
  have head : headIsItem f.payload (s.took c) = true := by
    obtain ⟨-, head⟩ | ⟨-, head⟩ := h <;> simp [headIsItem, head, front, item]
  have arm : exec c s = .next (handItem f.payload (s.took c)) := by
    obtain ⟨rfl, -⟩ | ⟨rfl, waiting⟩ := h
    · rfl
    · change execDockRoomNotice s = _
      simp [execDockRoomNotice, waiting, front]
  refine ⟨_, arm, (kept_took _ s c).trans (handItem_kept _ _), fun full => ?_, fun ⟨live, room⟩ => ?_, fun dead => ?_⟩
  · rw [handItem_of_full head full]
    exact ⟨rfl, rfl, by simp [issued]⟩
  · have takes : takesItem (s.took c) = true := by simp [takesItem, Nat.not_le.mpr room]
    have taken : takeItem f.payload (s.took c) = _ := if_pos live
    rw [handItem_of_takes head takes, departHead_eq, taken]
    simp [front, left, issued]
  · have takes : takesItem (s.took c) = true := by simp [takesItem, dead]
    have discarded : takeItem f.payload (s.took c) = _ := if_neg (by simp [dead])
    rw [handItem_of_takes head takes, departHead_eq, discarded, dockEvent_eq]
    simp [front, left, issued, satAdd, State.stamp]

/-! ### Requests (R29, R34) -/

/-- What a restart of the dock port leaves, and its deliveries (R25, R29, R33). -/
theorem restartDock_eq (s : State) :
    let given : Bool := s.exchanging Exchange.riding && atOfferLimit s
    restartDock s = { s with
      dlc := { s.dlc with
        state := .attaching, exchange := none, stray := s.dlc.stray || s.exchanging Exchange.answering
        queue := if s.exchanging Exchange.riding then afterUnconsumed s.dlc.queue else s.dlc.queue
        undelivered := if given then 0 else s.dlc.undelivered
        statusSeen := false, announced := false, idMatch := .unknown, identity := none, missStreak := 0
        draw := s.dlc.defaultDraw
        attachTimer := s.timer s.dlc.attachTimeout, pollTimer := s.timer s.dlc.pollPeriod }
      inflight := s.inflight ++ ((if given then [.dockRoomNotice] else [])
        ++ (if s.dlc.state = .attaching then []
            else [.haeDockStateDelivery .attaching, .pclDockStateDelivery .attaching])
        ++ (if s.dlc.defaultDraw = s.dlc.draw then [] else [.drawDelivery s.dlc.defaultDraw])
        ++ (if given then [.recordOffer (.dockEvent .itemsDropped .attaching
            (min 255 (s.dlc.undelivered + 1)) s.stamp)] else [])) } := by
  intro given
  have counted : restartDock s = reportDropped given (enterAttaching
      (if s.exchanging Exchange.riding then countUnconsumed (abandonExchange s) else abandonExchange s)) := by
    cases exchange : s.dlc.exchange <;> simp [restartDock, exchange, given, State.exchanging]
  have limit : (s.exchanging Exchange.riding && atOfferLimit (abandonExchange s)) = given := rfl
  rw [counted, rideCounted_eq, limit, enterAttaching_eq, reportDropped_eq, abandonExchange_eq]
  cases given <;> simp [State.setDlc, satAdd, State.stamp, State.timer] <;> rfl

/-- Settles O26: RESTART_PORT of the dock refused and carried out, and CLEAR of DOCK_ERROR. -/
theorem dockRequests : Obligations.DockRequests := by
  intro tag s restart clear
  refine ⟨fun dead => answered (if_neg (by simp [dead])), fun live => ?_, answered rfl⟩
  refine ⟨_, restartDock (s.took restart), if_pos live, answer_replied _ _ _ _ _ _ _,
    kept_took_dlc (restartDock_kept _), ?_, ?_⟩
  · rw [restartDock_eq, atOfferLimit_eq]
    rfl
  · rw [restartDock_eq, atOfferLimit_eq]
    rfl

end Sys2Proof.Machine
end

-- PROOFS: bytes and fields read back (11.7), and the dock's answers (O19).
section

namespace Sys2Proof.Machine

/-! ### Bytes and words -/

@[simp] theorem byteOf_toNat (n : Nat) : (byteOf n).toNat = n % 256 := by
  simp [byteOf]

theorem byteOf_toNat_of_le {n : Nat} (h : n ≤ 255) : (byteOf n).toNat = n := by
  rw [byteOf_toNat]
  omega

/-- A word is read back from its two bytes. -/
theorem word16_bytes {n : Nat} (h : n < 65536) : word16 (byteOf n) (byteOf (n / 256)) = n := by
  simp only [word16, byteOf_toNat]
  omega

/-- A signed word is read back from its two bytes. -/
theorem signed16_bytes {v : Int} (h : inSample v = true) :
    signed16 (byteOf (BitVec.ofInt 16 v).toNat) (byteOf ((BitVec.ofInt 16 v).toNat / 256)) = v := by
  have range : -32768 ≤ v ∧ v ≤ 32767 := by simpa [inSample] using h
  rw [signed16, word16_bytes (BitVec.isLt _), BitVec.ofNat_toNat, BitVec.setWidth_eq, BitVec.toInt_ofInt, Int.bmod_eq_of_le]
  · omega
  · omega

theorem leInt16_reads {v : Int} (h : inSample v = true) : ∃ lo hi, leInt16 v = [lo, hi] ∧ signed16 lo hi = v :=
  ⟨_, _, rfl, signed16_bytes h⟩

theorem readMark_flag (b : Bool) : readMark (flag b) = b := by
  cases b <;> rfl

/-! ### One record (R20, 11.7.7) -/

/-- A record that the dock may send. -/
def DockRecord.sendable : DockRecord → Prop
  | .key _ codes => codes.length ≤ 6
  | .baseMotion x y z _ => inSample x = true ∧ inSample y = true ∧ inSample z = true
  | .status draw _ _ => draw ≤ 1000
  | .pointer _ _ _ _ => True

/-- A record is laid out as kind, length and fields, and its fields read back. -/
theorem DockRecord.bytes_eq {r : DockRecord} (h : r.sendable) : ∃ (kind len : Byte) (fields : List Byte),
    r.bytes = kind :: len :: fields ∧ fields.length = len.toNat ∧ fields.length ≤ 7 ∧ readDockRecord kind fields = some r := by
  cases r with
  | key modifier codes =>
    have short : codes.length ≤ 6 := h
    refine ⟨1, byteOf (codes.length + 1), modifier :: codes, rfl, ?_, by simpa using by omega, ?_⟩
    · rw [byteOf_toNat_of_le (by omega), List.length_cons]
    · simp [readDockRecord, short]
  | pointer dx dy buttons wheel =>
    refine ⟨2, 4, [dx, dy, buttons.setWidth 8, wheel], rfl, rfl, by simp, ?_⟩
    simp [readDockRecord]
  | baseMotion x y z newData =>
    obtain ⟨hx, hy, hz⟩ := h
    obtain ⟨x0, x1, bytes_x, read_x⟩ := leInt16_reads hx
    obtain ⟨y0, y1, bytes_y, read_y⟩ := leInt16_reads hy
    obtain ⟨z0, z1, bytes_z, read_z⟩ := leInt16_reads hz
    refine ⟨3, 7, [x0, x1, y0, y1, z0, z1, flag newData], ?_, rfl, by simp, ?_⟩
    · simp [DockRecord.bytes, bytes_x, bytes_y, bytes_z]
    · simp [readDockRecord, read_x, read_y, read_z, readMark_flag]
  | status draw identity faultBits =>
    have bound : draw ≤ 1000 := h
    refine ⟨4, 4, le16 draw ++ [identity, faultBits], rfl, rfl, by simp [le16], ?_⟩
    simp [readDockRecord, le16, word16_bytes (show draw < 65536 by omega), bound]

theorem DockRecord.bytes_length {r : DockRecord} (h : r.sendable) : 2 ≤ r.bytes.length ∧ r.bytes.length ≤ 9 := by
  obtain ⟨kind, len, fields, bytes, -, short, -⟩ := DockRecord.bytes_eq h
  simp [bytes]
  omega

/-- Field bytes whose length is not one of their kind's, and fields of an undefined kind. -/
def misfits (kind len : Byte) : Prop :=
  match kind.toNat with
  | 1 => len = 0 ∨ 7 < len.toNat
  | 2 => len ≠ 4
  | 3 => len ≠ 7
  | 4 => len ≠ 4
  | _ => True

theorem readDockRecord_of_misfit {kind len : Byte} {fields : List Byte} (length : fields.length = len.toNat)
    (misfit : misfits kind len) : readDockRecord kind fields = none := by
  unfold misfits at misfit
  unfold readDockRecord
  split
  · next modifier codes is =>
    simp only [is] at misfit
    obtain rfl | long := misfit
    · simp at length
    · rw [if_neg]
      simp at length
      omega
  · next is => simp [is] at misfit; exact absurd (BitVec.eq_of_toNat_eq length.symm) misfit
  · next is => simp [is] at misfit; exact absurd (BitVec.eq_of_toNat_eq length.symm) misfit
  · next is => simp [is] at misfit; exact absurd (BitVec.eq_of_toNat_eq length.symm) misfit
  · rfl

/-! ### The records of an answer -/

theorem readDockRecords_nil (n : Nat) : readDockRecords n [] = some [] := by
  unfold readDockRecords
  rfl

theorem readDockRecords_cons (n : Nat) (kind len : Byte) (rest : List Byte) :
    readDockRecords (n + 1) (kind :: len :: rest) =
      if rest.length < len.toNat then none
      else match readDockRecord kind (rest.take len.toNat), readDockRecords n (rest.drop len.toNat) with
        | some r, some rs => some (r :: rs)
        | _, _ => none := rfl

/-- A record laid out in front is read first. -/
theorem readDockRecords_bytes_append {r : DockRecord} (h : r.sendable) (n : Nat) (tail : List Byte) :
    readDockRecords (n + 1) (r.bytes ++ tail) = (readDockRecords n tail).map (r :: ·) := by
  obtain ⟨kind, len, fields, bytes, length, -, read⟩ := DockRecord.bytes_eq h
  rw [bytes, List.cons_append, List.cons_append, readDockRecords_cons, if_neg (by simp [length]), ← length,
    List.take_left, List.drop_left, read]
  cases readDockRecords n tail <;> rfl

/-- Records laid out in front of a tail are read one after another, and the tail after them. -/
theorem readDockRecords_append {records : List DockRecord} (h : ∀ r ∈ records, r.sendable) (n : Nat) (tail : List Byte) :
    readDockRecords (n + records.length) (records.flatMap DockRecord.bytes ++ tail) =
      (readDockRecords n tail).map (records ++ ·) := by
  induction records with
  | nil => simp
  | cons r records ih =>
    have first := readDockRecords_bytes_append (h r List.mem_cons_self) (n + records.length)
      (records.flatMap DockRecord.bytes ++ tail)
    have others := ih fun r' hr => h r' (List.mem_cons_of_mem _ hr)
    rw [List.flatMap_cons, List.append_assoc, List.length_cons, ← Nat.add_assoc, first, others, Option.map_map]
    rfl

theorem length_le_flatMap {records : List DockRecord} (h : ∀ r ∈ records, r.sendable) :
    records.length ≤ (records.flatMap DockRecord.bytes).length
      ∧ (records.flatMap DockRecord.bytes).length ≤ 9 * records.length := by
  induction records with
  | nil => simp
  | cons r records ih =>
    have first := DockRecord.bytes_length (h r List.mem_cons_self)
    have others := ih fun r' hr => h r' (List.mem_cons_of_mem _ hr)
    simp only [List.flatMap_cons, List.length_append, List.length_cons]
    omega

/-- As many bytes as an answer holds are more than enough to count its records. -/
theorem readDockRecords_whole {records : List DockRecord} (h : ∀ r ∈ records, r.sendable) (tail : List Byte) :
    ∃ n, readDockRecords (records.flatMap DockRecord.bytes ++ tail).length (records.flatMap DockRecord.bytes ++ tail) =
      (readDockRecords n tail).map (records ++ ·) := by
  have enough := (length_le_flatMap h).1
  obtain ⟨n, hn⟩ := Nat.exists_eq_add_of_le'
    (show records.length ≤ (records.flatMap DockRecord.bytes ++ tail).length by rw [List.length_append]; omega)
  exact ⟨n, hn ▸ readDockRecords_append h n tail⟩

theorem readAnswerBody_of_records {records : List DockRecord} (h : ∀ r ∈ records, r.sendable) (mark : Byte) :
    readAnswerBody (mark :: records.flatMap DockRecord.bytes) =
      if 4 < records.length ∨ ¬ (records.map DockRecord.kind).Nodup then .failed .malformed
      else .good (readMark mark) records := by
  obtain ⟨n, read⟩ := readDockRecords_whole h []
  rw [List.append_nil, readDockRecords_nil] at read
  rw [readAnswerBody, read]
  simp

theorem readAnswerBody_of_fault {records : List DockRecord} (h : ∀ r ∈ records, r.sendable) (mark : Byte)
    {tail : List Byte} (fault : ∀ n, readDockRecords n tail = none) :
    readAnswerBody (mark :: records.flatMap DockRecord.bytes ++ tail) = .failed .malformed := by
  obtain ⟨n, read⟩ := readDockRecords_whole h tail
  rw [fault n] at read
  rw [List.cons_append, readAnswerBody, read]
  rfl

/-! ### The classification (R19) -/

/-- The classification of an answer whose declared length is that of its contents. -/
theorem classifyAnswer_laid (awaited echo check : Byte) {body : List Byte} (short : body.length ≤ 255) :
    classifyAnswer awaited (0x5A :: echo :: byteOf body.length :: (body ++ [check])) =
      if crc8 (echo :: byteOf body.length :: body) ≠ check then .failed .corrupt
      else if echo ≠ awaited then .failed .miss
      else readAnswerBody body := by
  have declared := byteOf_toNat_of_le short
  simp [classifyAnswer, declared]

/-- Settles O19: a well-laid answer reads back, and each structural fault is MALFORMED. -/
theorem answerReadsBack : Obligations.AnswerReadsBack := by
  unfold Obligations.AnswerReadsBack
  intro sent
  have sendable (records : List DockRecord) (h : sent records) : ∀ r ∈ records, r.sendable := by
    intro r hr
    have := h r hr
    cases r <;> exact this
  refine ⟨fun echo consumed records few distinct h => ?_, fun awaited mark records tail h short => ?_, fun awaited => ?_⟩
  · intro wire
    have hs := sendable records h
    have short : (flag consumed :: records.flatMap DockRecord.bytes).length ≤ 255 := by
      have bound := (length_le_flatMap hs).2
      simp only [List.length_cons]
      omega
    have classified (awaited check : Byte) := classifyAnswer_laid awaited echo check short
    refine ⟨?_, fun awaited differs => ?_, fun awaited check other => ?_⟩
    · refine (classified echo _).trans ?_
      rw [if_neg (not_not_intro rfl), if_neg (not_not_intro rfl), readAnswerBody_of_records hs, if_neg (by simp [few, distinct]),
        readMark_flag]
    · refine (classified awaited _).trans ?_
      rw [if_neg (not_not_intro rfl), if_pos (Ne.symm differs)]
    · have last : check ≠ crc8 (echo :: byteOf (flag consumed :: records.flatMap DockRecord.bytes).length
          :: flag consumed :: records.flatMap DockRecord.bytes) := by
        rintro rfl
        exact other List.getLast?_concat
      have replaced : wire.dropLast ++ [check] = 0x5A :: echo :: byteOf (flag consumed :: records.flatMap DockRecord.bytes).length
          :: (flag consumed :: records.flatMap DockRecord.bytes ++ [check]) := by
        simp only [wire, answerWire, List.dropLast_concat]
        rfl
      rw [replaced, classified, if_pos last.symm]
  · intro body checked malformed
    have hs := sendable records h
    have classified : classifyAnswer awaited (0x5A :: checked ++ [crc8 checked]) = readAnswerBody body := by
      refine (classifyAnswer_laid awaited awaited _ (body := body)
        (by simpa [body] using Nat.succ_le_succ short)).trans ?_
      rw [if_neg (not_not_intro rfl), if_neg (not_not_intro rfl)]
    have faulty (fault : ∀ n, readDockRecords n tail = none) : malformed :=
      classified.trans (readAnswerBody_of_fault hs mark fault)
    refine ⟨fun none_left wrong => ?_, fun kind len fields rest laid length misfit => ?_, fun kind cut => ?_,
      fun kind len fields laid cut => ?_⟩
    · refine classified.trans ?_
      simp only [body, none_left, List.append_nil]
      rw [readAnswerBody_of_records hs, if_pos wrong]
    · refine faulty fun n => ?_
      subst laid
      cases n with
      | zero => rfl
      | succ n =>
        rw [List.cons_append, List.cons_append, readDockRecords_cons, ← length, List.take_left,
          readDockRecord_of_misfit length misfit]
        simp
    · refine faulty fun n => ?_
      subst cut
      cases n <;> rfl
    · refine faulty fun n => ?_
      subst laid
      cases n with
      | zero => rfl
      | succ n => rw [readDockRecords_cons, if_pos cut]
  · simp [classifyAnswer, readAnswerBody]

end Sys2Proof.Machine
end

-- PROOFS: direction, filter step and tracking (chapter 3; O27).
section

namespace Sys2Proof.Machine

/-! ### Directions within a quadrant (R53) -/

/-- The turns of a table are descending: each is at least as many units as all that follow it together, and each is the
turn of a vector of the first quadrant. -/
def descending : List (Nat × Int × Int) → Prop
  | [] => True
  | (n, c, sn) :: rest => (rest.map Prod.fst).sum < n ∧ 0 < c ∧ 0 < sn ∧ descending rest

theorem descending_halfUnitTurns : descending halfUnitTurns := by
  simp [descending, halfUnitTurns]

theorem halfUnits_le_sum (turns : List (Nat × Int × Int)) (a b : Int) :
    halfUnits turns a b ≤ (turns.map Prod.fst).sum := by
  induction turns generalizing a b with
  | nil => simp [halfUnits]
  | cons t turns ih =>
    obtain ⟨n, c, sn⟩ := t
    have first := ih (a * c + b * sn) (b * c - a * sn)
    have second := ih a b
    simp only [halfUnits, List.map_cons, List.sum_cons]
    split <;> omega

/-- The units do not depend on the vector's length. -/
theorem halfUnits_scale (turns : List (Nat × Int × Int)) {k : Int} (positive : 0 < k) (a b : Int) :
    halfUnits turns (k * a) (k * b) = halfUnits turns a b := by
  induction turns generalizing a b with
  | nil => rfl
  | cons t turns ih =>
    obtain ⟨n, c, sn⟩ := t
    have along : k * a * c + k * b * sn = k * (a * c + b * sn) := by ring
    have across : k * b * c - k * a * sn = k * (b * c - a * sn) := by ring
    simp only [halfUnits, along, across, ih, mul_nonneg_iff_of_pos_left positive]

/-- The units never fall as a vector of the first quadrant turns up. -/
theorem halfUnits_mono {turns : List (Nat × Int × Int)} (h : descending turns) {a b a' b' : Int} (ha : 0 < a) (hb : 0 ≤ b)
    (ha' : 0 < a') (hb' : 0 ≤ b') (up : b * a' ≤ b' * a) : halfUnits turns a b ≤ halfUnits turns a' b' := by
  induction turns generalizing a b a' b' with
  | nil => rfl
  | cons t turns ih =>
    obtain ⟨n, c, sn⟩ := t
    obtain ⟨enough, hc, hsn, rest⟩ := h
    simp only [halfUnits]
    by_cases above : 0 ≤ b * c - a * sn
    · have above' : 0 ≤ b' * c - a' * sn := by
        have scaled : 0 ≤ a * (b' * c - a' * sn) := by nlinarith
        exact (mul_nonneg_iff_of_pos_left ha).mp scaled
      rw [if_pos above, if_pos above']
      refine Nat.add_le_add_left (ih rest (by positivity) above (by positivity) above' ?_) n
      nlinarith [mul_nonneg (add_nonneg (sq_nonneg c) (sq_nonneg sn)) (sub_nonneg.mpr up)]
    · rw [if_neg above]
      split
      · have below := halfUnits_le_sum turns a b
        omega
      · exact ih rest ha hb ha' hb' up

theorem quadrantDirection_lt (a b : Int) : quadrantDirection a b < 5760 := by
  have bound := halfUnits_le_sum halfUnitTurns a b
  have sum : (halfUnitTurns.map Prod.fst).sum = 4095 := rfl
  unfold quadrantDirection
  omega

theorem quadrantDirection_scale {k : Int} (positive : 0 < k) (a b : Int) :
    quadrantDirection (k * a) (k * b) = quadrantDirection a b := by
  unfold quadrantDirection
  rw [halfUnits_scale _ positive]

/-! ### Directions of the four quadrants -/

/-- A vector lies in one of four quarters, each closed at its lower end. -/
theorem quarter_cases {u v : Int} (h : u ≠ 0 ∨ v ≠ 0) :
    (0 < u ∧ 0 ≤ v) ∨ (u ≤ 0 ∧ 0 < v) ∨ (u < 0 ∧ v ≤ 0) ∨ (0 ≤ u ∧ v < 0) := by
  omega

theorem direction_first {u v : Int} (h : 0 < u ∧ 0 ≤ v) : direction u v = quadrantDirection u v := by
  rw [direction, if_pos h, Nat.mod_eq_of_lt (quadrantDirection_lt u v)]

theorem direction_second {u v : Int} (h : u ≤ 0 ∧ 0 < v) :
    direction u v = (1440 + quadrantDirection v (-u)) % 5760 := by
  rw [direction, if_neg (by omega), if_pos h]

theorem direction_third {u v : Int} (h : u < 0 ∧ v ≤ 0) :
    direction u v = (2880 + quadrantDirection (-u) (-v)) % 5760 := by
  rw [direction, if_neg (by omega), if_neg (by omega), if_pos h]

theorem direction_fourth {u v : Int} (h : 0 ≤ u ∧ v < 0) :
    direction u v = (4320 + quadrantDirection (-v) u) % 5760 := by
  rw [direction, if_neg (by omega), if_neg (by omega), if_neg (by omega), if_pos h]

/-- A quarter turn of the vector adds 1440 to its direction. -/
theorem direction_turn {u v : Int} (h : u ≠ 0 ∨ v ≠ 0) : direction (-v) u = (direction u v + 1440) % 5760 := by
  obtain first | second | third | fourth := quarter_cases h
  · rw [direction_first first, direction_second (by omega), neg_neg, Nat.add_comm]
  · rw [direction_second second, direction_third (by omega), neg_neg]
    omega
  · rw [direction_third third, direction_fourth (by omega)]
    omega
  · rw [direction_fourth fourth, direction_first (by omega)]
    have := quadrantDirection_lt (-v) u
    omega

theorem direction_scale {u v k : Int} (h : u ≠ 0 ∨ v ≠ 0) (positive : 0 < k) :
    direction (k * u) (k * v) = direction u v := by
  have neg (x : Int) : -(k * x) = k * -x := by ring
  have above (x : Int) : 0 < k * x ↔ 0 < x := mul_pos_iff_of_pos_left positive
  have from_zero (x : Int) : 0 ≤ k * x ↔ 0 ≤ x := mul_nonneg_iff_of_pos_left positive
  have below (x : Int) : k * x < 0 ↔ x < 0 := by
    have := from_zero x
    omega
  have to_zero (x : Int) : k * x ≤ 0 ↔ x ≤ 0 := by
    have := above x
    omega
  obtain first | second | third | fourth := quarter_cases h
  · rw [direction_first first, direction_first (by simpa [above, from_zero] using first), quadrantDirection_scale positive]
  · rw [direction_second second, direction_second (by simpa [above, to_zero] using second), neg,
      quadrantDirection_scale positive]
  · rw [direction_third third, direction_third (by simpa [below, to_zero] using third), neg, neg,
      quadrantDirection_scale positive]
  · rw [direction_fourth fourth, direction_fourth (by simpa [from_zero, below] using fourth), neg,
      quadrantDirection_scale positive]

theorem direction_mono {u v u' v' : Int} (hu : 0 < u) (hv : 0 ≤ v) (hu' : 0 < u') (hv' : 0 ≤ v') (up : v * u' ≤ v' * u) :
    direction u v ≤ direction u' v' := by
  rw [direction_first ⟨hu, hv⟩, direction_first ⟨hu', hv'⟩]
  have := halfUnits_mono descending_halfUnitTurns hu hv hu' hv' up
  unfold quadrantDirection
  omega

/-- A vector along +u has direction 0: it has the direction of the unit vector. -/
theorem direction_along {u : Int} (h : 0 < u) : direction u 0 = 0 := by
  have scaled := direction_scale (u := 1) (v := 0) (.inl one_ne_zero) h
  rw [mul_one, mul_zero] at scaled
  rw [scaled]
  rfl

theorem circDiff_spec (a b : Nat) :
    -2879 ≤ circDiff a b ∧ circDiff a b ≤ 2880 ∧ ((a : Int) + circDiff a b - b) % 5760 = 0 := by
  simp only [circDiff]
  split <;> omega

theorem circDist_comm (a b : Nat) : circDist a b = circDist b a := by
  simp only [circDist, circDiff]
  split <;> split <;> omega

/-! ### The filter step (R44) -/

theorem filterAxis_up {k : Nat} {f v : Int} (h : f ≤ v) : filterAxis k f v = f + (v - f) / 2 ^ k := by
  rw [filterAxis, Int.tdiv_eq_ediv_of_nonneg (by omega)]

theorem filterAxis_down {k : Nat} {f v : Int} (h : v ≤ f) : filterAxis k f v = f - (f - v) / 2 ^ k := by
  have turned : v - f = -(f - v) := by ring
  rw [filterAxis, turned, Int.neg_tdiv, Int.tdiv_eq_ediv_of_nonneg (by omega)]
  ring

theorem filterAxis_between_up {k : Nat} {f v : Int} (h : f ≤ v) : f ≤ filterAxis k f v ∧ filterAxis k f v ≤ v := by
  have lower : 0 ≤ (v - f) / 2 ^ k := Int.ediv_nonneg (by omega) (by positivity)
  have upper : (v - f) / 2 ^ k ≤ v - f := Int.ediv_le_self _ (by omega)
  rw [filterAxis_up h]
  omega

theorem filterAxis_between_down {k : Nat} {f v : Int} (h : v ≤ f) : v ≤ filterAxis k f v ∧ filterAxis k f v ≤ f := by
  have lower : 0 ≤ (f - v) / 2 ^ k := Int.ediv_nonneg (by omega) (by positivity)
  have upper : (f - v) / 2 ^ k ≤ f - v := Int.ediv_le_self _ (by omega)
  rw [filterAxis_down h]
  omega

/-- A filtered value stays in the sample range. -/
theorem filterAxis_inSample {k : Nat} {f v : Int} (hf : inSample f = true) (hv : inSample v = true) :
    inSample (filterAxis k f v) = true := by
  simp only [inSample, Bool.and_eq_true, decide_eq_true_eq] at *
  obtain up | down := le_total f v
  · have := filterAxis_between_up (k := k) up
    omega
  · have := filterAxis_between_down (k := k) down
    omega

/-! ### Tracking (R55) -/

theorem moveTracked_eq (t r : Nat) : (moveTracked t r : Int) = max 0 (min 5760 (t + circDiff (t % 5760) r)) := by
  simp only [moveTracked, clampNat, clampInt]
  split_ifs <;> omega

/-- Settles O27: directions by quadrant, filter steps by sign, and tracking by row. -/
theorem hingeArithmetic : Obligations.HingeArithmetic := by
  refine ⟨⟨fun _ _ => direction_turn, fun _ _ _ => direction_scale, fun _ => direction_along, circDiff_spec, circDist_comm,
    fun _ _ _ _ => direction_mono, rfl, rfl⟩, fun k f v => ⟨filterAxis_between_up, filterAxis_between_down, ?_,
    filterAxis_up, filterAxis_down, filterAxis_inSample⟩, moveTracked_eq, fun h r front => ?_, fun h r front rear => ?_,
    fun h r front rear none => ?_, fun h r t front rear some => ?_⟩
  · simp [filterAxis]
  · simp only [track, front, if_true, hallRow, true_and]
    split <;> omega
  · simp only [track, front, rear, Bool.false_eq_true, if_false, if_true, hallRow, true_and]
    split <;> omega
  · simp [track, front, rear, none]
  · simp [track, front, rear, some]

end Sys2Proof.Machine
end

-- PROOFS: a hinge computation, the reviews and the hall events (chapter 3; O29 to O31).
section

namespace Sys2Proof.Machine

/-! ### Values (R44 to R60) -/

theorem isMoving_some (limit : Nat) (f : Filtered) (v : Vec3) : isMoving limit (some f) v = true ↔
    (limit : Int) < |v.x - f.v.x| ∨ (limit : Int) < |v.y - f.v.y| ∨ (limit : Int) < |v.z - f.v.z| := by
  simp only [isMoving, Bool.or_eq_true, decide_eq_true_eq, Int.abs_eq_natAbs, Nat.cast_lt, or_assoc]

/-- Freshness by the vector's age, modulo 2^32 (R47). -/
theorem isFresh_iff (now : PartTime) (period : Nat) (v : Option Filtered) : isFresh now period v = true ↔
    ∃ f, v = some f ∧ ((now.toNat : Int) - f.updated.toNat) % 2 ^ 32 ≤ 3 * period := by
  cases v with
  | none => simp [isFresh]
  | some f =>
    have now_lt := now.isLt
    have updated_lt := f.updated.isLt
    have age : (((now - f.updated).toNat : Nat) : Int) = ((now.toNat : Int) - f.updated.toNat) % 2 ^ 32 := by
      rw [BitVec.toNat_sub]
      omega
    simp only [isFresh, decide_eq_true_eq, Option.some.injEq, exists_eq_left', ← age]
    omega

theorem noBase_iff (s : State) :
    s.noBase = true ↔ s.hae.dock = .absent ∨ s.hae.dock = .unpowered ∨ s.hae.base = none := by
  simp [State.noBase, or_assoc]

theorem isStale_iff (s : State) :
    s.isStale = true ↔ s.lidFresh = false ∨ s.baseFresh = false ∨ s.hae.port = .stalled := by
  simp [State.isStale, or_assoc]

theorem projects_some (m : Nat) (f : Filtered) :
    projects m (some f) = true ↔ (m : Int) * m ≤ f.v.y * f.v.y + f.v.z * f.v.z := by
  have positive : 0 ≤ f.v.y ^ 2 + f.v.z ^ 2 := by positivity
  simp only [projects, decide_eq_true_eq, Int.le_toNat positive, Nat.cast_pow]
  rw [pow_two, pow_two, pow_two]

theorem rawHinge_eq {h : Hae} {l b : Filtered} (lid : h.lid = some l) (base : h.base = some b) :
    (rawHinge h : Int) = ((direction l.v.y l.v.z : Int) - direction b.v.y b.v.z + 2880 + h.hingeCal) % 5760 := by
  simp only [rawHinge, yzDirection, lid, base]
  omega

theorem anchor_some (t : Nat) : anchor .front (some t) = some (if t ≤ 2880 then t else 0)
    ∧ anchor .rear (some t) = some (if 2880 ≤ t then t else 5760) := by
  constructor
  · by_cases h : t ≤ 2880
    · simp [anchor, h]
    · simp [anchor, h, Nat.lt_of_not_le h]
  · by_cases h : 2880 ≤ t
    · simp [anchor, h]
    · simp [anchor, h, Nat.lt_of_not_le h]

theorem reportHinge_some (d t r : Nat) : reportHinge d (some t) (some r) =
    some (if (d : Int) ≤ |(t : Int) - r| ∨ t = 0 ∨ t = 5760 then t else r) := by
  have moved : (d : Int) ≤ |(t : Int) - r| ↔ d ≤ ((t : Int) - r).natAbs := by
    rw [Int.abs_eq_natAbs, Nat.cast_le]
  simp only [reportHinge, moved]
  split
  · simp [*]
  · split <;> simp [*]

/-! ### What an event's outcome delivers (R61) -/

theorem deliverOutcome_inflight (before : Hae) (s : State) : (deliverOutcome before s).inflight = s.inflight
    ++ (if s.hae.reported = before.reported ∧ s.hae.quality = before.quality ∧ s.hae.face = before.face then []
        else [.hingeDelivery s.hae.reported s.hae.quality s.hae.face])
    ++ (if s.hae.reported = before.reported ∧ s.hae.quality = before.quality then []
        else [.recordOffer (.hinge s.hae.reported s.hae.quality s.hae.raw (s.partTime.setWidth 16))]) := by
  rw [deliverOutcome_eq]
  by_cases reported : s.hae.reported = before.reported <;> by_cases quality : s.hae.quality = before.quality <;>
    by_cases face : s.hae.face = before.face <;> simp [reported, quality, face, State.stamp]

/-! ### A computation (R48) -/

/-- Steps 2 to 5 of a computation: the quality, the hinge work, the face and the reported hinge. -/
theorem worked_eq (s : State) :
    let h := hingeWork { s.hae with quality := decideQuality s }
    updateReported (updateFace (decideAndWork s)) = s.setHae { s.hae with
      quality := decideQuality s, raw := h.raw, tracked := h.tracked
      reported := reportHinge s.hae.hingeDeadband h.tracked s.hae.reported
      face := baseFace s.baseFresh s.hae.faceT s.hae.base } := by
  unfold updateReported updateFace decideAndWork
  cases quality : decideQuality s <;> simp [hingeWork] <;> rfl

/-- Step 1 of a computation on a lid sample. -/
theorem takeSample_lid {p : Sample} {s : State} (lid : p.sensor = .lid) : takeSample p s = { s with
    hae := { s.hae with
      lid := some (filterStep s.hae.filterShift s.hae.lid p), lidMoving := isMoving s.hae.motionThreshold s.hae.lid p.v
      lidTimer := s.timer (3 * s.lsp.samplePeriod) }
    inflight := s.inflight ++ (.lidVectorDelivery (filterStep s.hae.filterShift s.hae.lid p).v ::
      if isMoving s.hae.motionThreshold s.hae.lid p.v then [.lidMotionOccurrence s.hae.motionIsActivity] else []) } := by
  simp only [takeSample, lid]
  rfl

/-- Step 1 of a computation on a base sample. -/
theorem takeSample_base {p : Sample} {s : State} (base : p.sensor = .base) : takeSample p s = s.setHae { s.hae with
    base := some (filterStep s.hae.filterShift s.hae.base p), baseMoving := isMoving s.hae.motionThreshold s.hae.base p.v
    baseTimer := s.timer (3 * s.dlc.pollPeriod) } := by
  simp only [takeSample, base]
  rfl

/-- What follows step 1 of a computation, told of the state `u` that step leaves (R48 to R61). -/
theorem computed (before : Hae) (u : State) :
    let t := deliverOutcome before (updateReported (updateFace (decideAndWork u)))
    t.hae = { u.hae with
        quality := t.hae.quality, raw := t.hae.raw, tracked := t.hae.tracked, reported := t.hae.reported
        face := t.hae.face }
    ∧ t.hae.quality = decideQuality t
    ∧ (t.hae.quality = .noBase → t.hae.raw = none ∧ t.hae.tracked = none ∧ t.hae.reported = none)
    ∧ (t.hae.quality = .stale ∨ t.hae.quality = .axisVertical → t.hae.raw = u.hae.raw ∧ t.hae.tracked = u.hae.tracked)
    ∧ (t.hae.quality = .hallConflict → t.hae.raw = some (rawHinge t.hae) ∧ t.hae.tracked = u.hae.tracked)
    ∧ (t.hae.quality = .good ∨ t.hae.quality = .moving →
        t.hae.raw = some (rawHinge t.hae) ∧ t.hae.tracked = some (track u.hae (rawHinge t.hae)))
    ∧ t.hae.reported = reportHinge u.hae.hingeDeadband t.hae.tracked u.hae.reported
    ∧ t.hae.face = baseFace t.baseFresh u.hae.faceT t.hae.base
    ∧ t.inflight = u.inflight
      ++ (if t.hae.reported = before.reported ∧ t.hae.quality = before.quality ∧ t.hae.face = before.face then []
          else [.hingeDelivery t.hae.reported t.hae.quality t.hae.face])
      ++ (if t.hae.reported = before.reported ∧ t.hae.quality = before.quality then []
          else [.recordOffer (.hinge t.hae.reported t.hae.quality t.hae.raw (u.partTime.setWidth 16))]) := by
  intro t
  have quality : t.hae.quality = decideQuality u := by
    simp only [t, worked_eq, deliverOutcome_eq, State.setHae_hae]
  have work : t.hae.raw = (hingeWork { u.hae with quality := decideQuality u }).raw
      ∧ t.hae.tracked = (hingeWork { u.hae with quality := decideQuality u }).tracked := by
    simp only [t, worked_eq, deliverOutcome_eq, State.setHae_hae, and_self]
  have reported : t.hae.reported = reportHinge u.hae.hingeDeadband t.hae.tracked u.hae.reported := by
    simp only [t, worked_eq, deliverOutcome_eq, State.setHae_hae]
  have shape : t.hae = { u.hae with
      quality := t.hae.quality, raw := t.hae.raw, tracked := t.hae.tracked, reported := t.hae.reported
      face := t.hae.face } := by
    simp only [t, worked_eq, deliverOutcome_eq, State.setHae_hae]
  have raw : rawHinge t.hae = rawHinge u.hae := by
    rw [shape]
    rfl
  refine ⟨shape, ?_, fun is => ?_, fun is => ?_, fun is => ?_, fun is => ?_, reported, ?_, ?_⟩
  · simp only [t, worked_eq, deliverOutcome_eq]
    rfl
  · rw [quality] at is
    simp [reported, work, is, hingeWork, reportHinge]
  · rw [quality] at is
    obtain is | is := is <;> simp [work, is, hingeWork]
  · rw [quality] at is
    simp only [work, is, hingeWork, raw, and_true]
    rfl
  · rw [quality] at is
    obtain is | is := is <;> (simp only [work, is, hingeWork, raw]; exact ⟨rfl, rfl⟩)
  · simp only [t, worked_eq, deliverOutcome_eq]
    rfl
  · exact deliverOutcome_inflight before _

/-- Settles O29: the computation by its steps, and each value by its own rule. -/
theorem hingeComputation : Obligations.HingeComputation := by
  refine ⟨fun p s => ?_, fun k p => ⟨rfl, fun f => rfl⟩, fun limit v => ⟨rfl, fun f => isMoving_some limit f v⟩,
    fun s => ⟨isFresh_iff _ _ _, isFresh_iff _ _ _⟩, fun s => ⟨noBase_iff s, isStale_iff s⟩,
    fun m => ⟨rfl, projects_some m⟩, fun h l b lid base => rawHinge_eq lid base, ⟨rfl, rfl, anchor_some⟩,
    fun d old => ⟨rfl, fun t => ⟨rfl, fun r => reportHinge_some d t r⟩⟩, fun faceT => ⟨fun _ => rfl, fun f => ⟨rfl, ?_, ?_, ?_⟩⟩⟩
  · have arm : exec (.computation p) s = .next (deliverOutcome s.hae (updateReported (updateFace (decideAndWork
        (takeSample p (s.took (.computation p))))))) := rfl
    have frame := execComputation_kept p s.hae (s.took (.computation p))
    have facts := computed s.hae (takeSample p (s.took (.computation p)))
    dsimp only at facts
    refine ⟨_, arm, (kept_took _ s _).trans frame, ?_⟩
    generalize deliverOutcome s.hae (updateReported (updateFace (decideAndWork
      (takeSample p (s.took (.computation p)))))) = t at facts ⊢
    cases sensor : p.sensor with
    | lid =>
      rw [takeSample_lid sensor] at facts
      obtain ⟨shape, quality, noBase, still, conflict, good, reported, face, inflight⟩ := facts
      have lid : t.hae.lid = some (filterStep s.hae.filterShift s.hae.lid p) := by rw [shape]; rfl
      have base : t.hae.base = s.hae.base := by rw [shape]; rfl
      have lidMoving : t.hae.lidMoving = isMoving s.hae.motionThreshold s.hae.lid p.v := by rw [shape]; rfl
      have lidTimer : t.hae.lidTimer = s.timer (3 * s.lsp.samplePeriod) := by rw [shape]; rfl
      have baseMoving : t.hae.baseMoving = s.hae.baseMoving := by rw [shape]; rfl
      have baseTimer : t.hae.baseTimer = s.hae.baseTimer := by rw [shape]; rfl
      refine ⟨?_, quality, fun _ => ⟨lid, base, lidMoving, lidTimer, baseMoving, baseTimer⟩, by simp, noBase, still, conflict,
        good, reported, face, ?_⟩
      · refine shape.trans ?_
        rw [lid, base, lidMoving, lidTimer, baseMoving, baseTimer]
        rfl
      · rw [lid, lidMoving]
        refine inflight.trans ?_
        simp only [List.append_assoc]
        rfl
    | base =>
      rw [takeSample_base sensor] at facts
      obtain ⟨shape, quality, noBase, still, conflict, good, reported, face, inflight⟩ := facts
      have base : t.hae.base = some (filterStep s.hae.filterShift s.hae.base p) := by rw [shape]; rfl
      have lid : t.hae.lid = s.hae.lid := by rw [shape]; rfl
      have baseMoving : t.hae.baseMoving = isMoving s.hae.motionThreshold s.hae.base p.v := by rw [shape]; rfl
      have baseTimer : t.hae.baseTimer = s.timer (3 * s.dlc.pollPeriod) := by rw [shape]; rfl
      have lidMoving : t.hae.lidMoving = s.hae.lidMoving := by rw [shape]; rfl
      have lidTimer : t.hae.lidTimer = s.hae.lidTimer := by rw [shape]; rfl
      refine ⟨?_, quality, by simp, fun _ => ⟨base, lid, baseMoving, baseTimer, lidMoving, lidTimer⟩, noBase, still, conflict,
        good, reported, face, ?_⟩
      · refine shape.trans ?_
        rw [lid, base, lidMoving, lidTimer, baseMoving, baseTimer]
        rfl
      · refine inflight.trans ?_
        simp only [List.append_assoc]
        rfl
  · intro up
    simp [baseFace, up]
  · intro below down
    simp [baseFace, below, down]
  · intro below above
    simp [baseFace, not_le.mpr below, not_le.mpr above]

/-! ### Reviews (R45, R51) -/

/-- A review after an event that has left the engine as `u`, against the values `before` it (R51, R59 to R61). -/
theorem reviewed (before : Hae) (u : State) :
    let t := review before u
    t.hae = { u.hae with
        quality := t.hae.quality, raw := t.hae.raw, tracked := t.hae.tracked, reported := t.hae.reported
        face := t.hae.face }
    ∧ t.hae.quality = (if t.noBase then .noBase else if t.isStale then .stale else u.hae.quality)
    ∧ t.hae.raw = (if t.noBase then none else u.hae.raw)
    ∧ t.hae.tracked = (if t.noBase then none else u.hae.tracked)
    ∧ t.hae.reported = reportHinge u.hae.hingeDeadband t.hae.tracked u.hae.reported
    ∧ t.hae.face = baseFace t.baseFresh u.hae.faceT t.hae.base
    ∧ t.inflight = u.inflight
      ++ (if t.hae.reported = before.reported ∧ t.hae.quality = before.quality ∧ t.hae.face = before.face then []
          else [.hingeDelivery t.hae.reported t.hae.quality t.hae.face])
      ++ (if t.hae.reported = before.reported ∧ t.hae.quality = before.quality then []
          else [.recordOffer (.hinge t.hae.reported t.hae.quality t.hae.raw (u.partTime.setWidth 16))]) := by
  intro t
  have closed : t = deliverOutcome before (updateReported (updateFace (u.setHae { u.hae with
      quality := if u.noBase then .noBase else if u.isStale then .stale else u.hae.quality
      raw := if u.noBase then none else u.hae.raw
      tracked := if u.noBase then none else u.hae.tracked }))) := by
    simp only [t, review, reviewQuality_eq]
  have noBase : t.noBase = u.noBase := by rw [closed]; rfl
  have isStale : t.isStale = u.isStale := by rw [closed]; rfl
  rw [noBase, isStale, closed]
  exact ⟨rfl, rfl, rfl, rfl, rfl, rfl, deliverOutcome_inflight before _⟩

/-- A command that leaves the engine as `h`, issues `extra` and makes a review. -/
theorem reviewed_event {c : Instr} {s : State} (h : Hae) (queue extra : List Instr)
    (arm : exec c s = .next (review s.hae { s with hae := h, inflight := queue ++ extra })) :
    ∃ t, exec c s = .next t ∧ kept [.hae] s t
      ∧ t.hae = { h with
          quality := t.hae.quality, raw := t.hae.raw, tracked := t.hae.tracked, reported := t.hae.reported
          face := t.hae.face }
      ∧ t.hae.quality = (if t.noBase then .noBase else if t.isStale then .stale else h.quality)
      ∧ t.hae.raw = (if t.noBase then none else h.raw)
      ∧ t.hae.tracked = (if t.noBase then none else h.tracked)
      ∧ t.hae.reported = reportHinge h.hingeDeadband t.hae.tracked h.reported
      ∧ t.hae.face = baseFace t.baseFresh h.faceT t.hae.base
      ∧ t.inflight = queue ++ extra
        ++ (if t.hae.reported = s.hae.reported ∧ t.hae.quality = s.hae.quality ∧ t.hae.face = s.hae.face then []
            else [.hingeDelivery t.hae.reported t.hae.quality t.hae.face])
        ++ (if t.hae.reported = s.hae.reported ∧ t.hae.quality = s.hae.quality then []
            else [.recordOffer (.hinge t.hae.reported t.hae.quality t.hae.raw (s.partTime.setWidth 16))]) :=
  ⟨_, arm, (kept_hae s h _).trans (review_kept _ _), reviewed s.hae _⟩

/-- Settles O30: the five events, and a freshness timer that finds its vector fresh. -/
theorem hingeReviews : Obligations.HingeReviews := by
  refine ⟨fun c s => ?_, fun f s => ⟨fun lid due fresh => ?_, fun base due fresh => ?_⟩⟩
  · intro event h isEvent
    cases c
    case lidFilterClear =>
      obtain rfl := Option.some.inj isEvent
      exact reviewed_event _ _ [.noVector] rfl
    case baseInvalidation =>
      obtain rfl := Option.some.inj isEvent
      exact reviewed_event _ _ [] (by rw [List.append_nil]; rfl)
    case portStateDelivery st =>
      obtain rfl := Option.some.inj isEvent
      exact reviewed_event _ _ [] (by rw [List.append_nil]; rfl)
    case haeDockStateDelivery st =>
      obtain rfl := Option.some.inj isEvent
      exact reviewed_event _ _ [] (by rw [List.append_nil]; rfl)
    case freshnessTimerExpiry sensor =>
      cases sensor with
      | lid =>
        obtain ⟨⟨due, stale⟩, is⟩ := Option.ite_none_right_eq_some.mp isEvent
        obtain rfl := Option.some.inj is
        refine reviewed_event { s.hae with lidTimer := .cancelled } _ [] ?_
        change execFreshnessTimerExpiry .lid s = _
        rw [List.append_nil]
        simp only [execFreshnessTimerExpiry, due, stale, Bool.not_true, Bool.false_eq_true, if_false]
        rfl
      | base =>
        obtain ⟨⟨due, stale⟩, is⟩ := Option.ite_none_right_eq_some.mp isEvent
        obtain rfl := Option.some.inj is
        refine reviewed_event { s.hae with baseTimer := .cancelled } _ [] ?_
        change execFreshnessTimerExpiry .base s = _
        rw [List.append_nil]
        simp only [execFreshnessTimerExpiry, due, stale, Bool.not_true, Bool.false_eq_true, if_false]
        rfl
    all_goals exact nomatch (show (none : Option Hae) = some h from isEvent)
  · change execFreshnessTimerExpiry .lid s = _
    simp [execFreshnessTimerExpiry, due, fresh, freshUntil, lid]
    rfl
  · change execFreshnessTimerExpiry .base s = _
    simp [execFreshnessTimerExpiry, due, fresh, freshUntil, base]
    rfl

/-! ### Hall events (R57, R58) -/

/-- A hall event changes the quality and the tracked hinge at most. -/
theorem hallCase_shape (noBase : Bool) (hall : Hall) (asserted : Bool) (h : Hae) :
    hallCase noBase hall asserted h = { h with
      quality := (hallCase noBase hall asserted h).quality, tracked := (hallCase noBase hall asserted h).tracked } := by
  simp only [hallCase]
  repeat' split
  all_goals rfl

/-- Both halls asserted under GOOD or MOVING is a conflict. -/
theorem hallCase_quality (noBase : Bool) (hall : Hall) (asserted : Bool) (h : Hae) :
    (hallCase noBase hall asserted h).quality =
      if noBase = false ∧ (h.front = true ∧ h.rear = true) ∧ (h.quality = .good ∨ h.quality = .moving)
        then .hallConflict else h.quality := by
  cases noBase with
  | true => rfl
  | false =>
    by_cases both : h.front = true ∧ h.rear = true
    · by_cases running : h.quality = .good ∨ h.quality = .moving <;> simp [hallCase, both, running]
    · have is : (h.front && h.rear) = false := by simpa using both
      simp only [hallCase, Bool.false_eq_true, if_false, is, both, false_and, and_false]
      cases asserted <;> cases quality : h.quality <;> simp [quality]

/-- Without a base, in a conflict, and at a clear the tracked hinge stays. -/
theorem hallCase_stays {noBase : Bool} {hall : Hall} {asserted : Bool} {h : Hae}
    (still : noBase = true ∨ (h.front = true ∧ h.rear = true) ∨ asserted = false) :
    (hallCase noBase hall asserted h).tracked = h.tracked := by
  simp only [hallCase]
  obtain rfl | ⟨front, rear⟩ | rfl := still
  · rfl
  · simp only [front, rear, Bool.and_self, if_true]
    split_ifs <;> rfl
  · simp only [Bool.not_false, if_true]
    split_ifs <;> rfl

/-- An assertion alone acts by the quality. -/
theorem hallCase_alone {hall : Hall} {h : Hae} (alone : ¬ (h.front = true ∧ h.rear = true)) :
    (h.quality = .stale ∨ h.quality = .axisVertical → (hallCase false hall true h).tracked = anchor hall h.tracked)
    ∧ (∀ r, h.raw = some r → h.quality = .good ∨ h.quality = .moving ∨ h.quality = .hallConflict →
        (hallCase false hall true h).tracked = some (hallRow hall r)) := by
  have notBoth : (h.front && h.rear) = false := by simpa using alone
  refine ⟨fun is => ?_, fun r raw is => ?_⟩
  · obtain is | is := is <;> simp [hallCase, notBoth, is]
  · obtain is | is | is := is <;> simp [hallCase, notBoth, is, raw]

/-- Recording a hall level changes that level alone. -/
theorem recordHall_shape (h : Hae) (hall : Hall) (asserted : Bool) :
    h.recordHall hall asserted = { h with
      front := (h.recordHall hall asserted).front, rear := (h.recordHall hall asserted).rear } := by
  cases hall <;> rfl

/-- Settles O31: the cases of R57 by base, halls, assertion and quality. -/
theorem hallEvents : Obligations.HallEvents := by
  intro hall asserted time s h both
  have recorded : h = { s.hae with front := h.front, rear := h.rear } := recordHall_shape s.hae hall asserted
  let c : Instr := .haeHallEvent hall asserted time
  have noBase : ((s.took c).setHae h).noBase = s.noBase := by
    rw [recorded]
    rfl
  have arm : exec c s = .next (deliverOutcome s.hae (updateReported
      ((s.took c).setHae (hallCase ((s.took c).setHae h).noBase hall asserted h)))) := rfl
  rw [noBase] at arm
  have shape := hallCase_shape s.noBase hall asserted h
  have quality := hallCase_quality s.noBase hall asserted h
  have stays := hallCase_stays (noBase := s.noBase) (hall := hall) (asserted := asserted) (h := h)
  have alone (based : s.noBase = false) (single : ¬ both) (on : asserted = true) :
      (h.quality = .stale ∨ h.quality = .axisVertical →
        (hallCase s.noBase hall asserted h).tracked = anchor hall h.tracked)
      ∧ (∀ r, h.raw = some r → h.quality = .good ∨ h.quality = .moving ∨ h.quality = .hallConflict →
        (hallCase s.noBase hall asserted h).tracked = some (hallRow hall r)) := by
    rw [based, on]
    exact hallCase_alone single
  have before : h.quality = s.hae.quality ∧ h.tracked = s.hae.tracked ∧ h.raw = s.hae.raw ∧ h.reported = s.hae.reported
      ∧ h.hingeDeadband = s.hae.hingeDeadband ∧ h.face = s.hae.face := by
    rw [recorded]
    exact ⟨rfl, rfl, rfl, rfl, rfl, rfl⟩
  obtain ⟨sameQuality, sameTracked, sameRaw, sameReported, sameDeadband, sameFace⟩ := before
  have frame : kept [.hae] s (deliverOutcome s.hae (updateReported
      ((s.took c).setHae (hallCase s.noBase hall asserted h)))) :=
    (kept_took _ s c).trans (((kept_setHae _ _).trans (kept_setHae _ _)).trans (deliverOutcome_kept _ _))
  have inflight := deliverOutcome_inflight s.hae (updateReported ((s.took c).setHae (hallCase s.noBase hall asserted h)))
  rw [sameQuality] at quality alone
  rw [sameTracked] at stays alone
  rw [sameRaw] at alone
  generalize hallCase s.noBase hall asserted h = k at arm shape quality stays alone frame inflight
  have reported : k.reported = s.hae.reported := by rw [shape]; exact sameReported
  have deadband : k.hingeDeadband = s.hae.hingeDeadband := by rw [shape]; exact sameDeadband
  have face : k.face = s.hae.face := by rw [shape]; exact sameFace
  refine ⟨_, arm, frame, ?_, ?_, quality, stays, alone, ?_⟩
  · exact congrArg (fun k' : Hae => { k' with reported := reportHinge k.hingeDeadband k.tracked k.reported }) shape
  · rw [← reported, ← deadband]
    rfl
  · refine inflight.trans ?_
    have sameFace : (updateReported ((s.took c).setHae k)).hae.face = s.hae.face := face
    have sentFace : (deliverOutcome s.hae (updateReported ((s.took c).setHae k))).hae.face = s.hae.face := face
    simp only [sameFace, sentFace, and_true, List.append_assoc]
    rfl

end Sys2Proof.Machine
end

-- PROOFS: the rotation unit (chapter 4; O32, O33).
section

namespace Sys2Proof.Machine

/-! ### The candidate of a decision (R69) -/

theorem qualifies_iff (current k : Rot) (rho hyst : Nat) :
    qualifies current rho hyst k = true ↔ k ≠ current ∧ circDist rho k.centre + hyst ≤ 720 := by
  simp [qualifies]

/-- The circular distance is the shorter way around. -/
theorem circDist_cases (a b : Nat) :
    ((b : Int) - a) % 5760 ≤ 2880 ∧ (circDist a b : Int) = ((b : Int) - a) % 5760
    ∨ 2880 < ((b : Int) - a) % 5760 ∧ (circDist a b : Int) = 5760 - ((b : Int) - a) % 5760 := by
  simp only [circDist, circDiff]
  split <;> omega

theorem Rot.centre_range (k : Rot) : k.centre % 1440 = 0 ∧ k.centre < 5760 := by
  cases k <;> decide

theorem Rot.centre_inj {k k' : Rot} (same : k.centre = k'.centre) : k = k' := by
  cases k <;> cases k' <;> simp [Rot.centre] at same ⊢

/-- Two states can only both lie within 720 of an angle that is midway between them; one of the two lies above it. -/
theorem circDist_midway {k k' : Rot} {rho : Nat} (differ : k ≠ k')
    (near : circDist rho k.centre ≤ 720) (near' : circDist rho k'.centre ≤ 720) :
    circDist rho k.centre = 720 ∧ (k.centre = (rho + 720) % 5760 ∨ k'.centre = (rho + 720) % 5760) := by
  have centre := k.centre_range
  have centre' := k'.centre_range
  have apart : k.centre ≠ k'.centre := mt Rot.centre_inj differ
  obtain way | way := circDist_cases rho k.centre <;> obtain way' | way' := circDist_cases rho k'.centre <;> omega

/-- A candidate that is found qualifies. -/
theorem selectCandidate_qualifies {current k : Rot} {rho hyst : Nat} (found : selectCandidate current rho hyst = some k) :
    qualifies current rho hyst k = true := by
  have member : k ∈ [Rot.rot0, .rot90, .rot180, .rot270].filter (qualifies current rho hyst) := by
    unfold selectCandidate at found
    split at found
    · cases found
    · next one => rw [one, ← Option.some.inj found]; exact List.mem_singleton_self _
    · exact List.mem_of_find?_eq_some found
  exact (List.mem_filter.mp member).2

/-- A list without repetition all of whose members are one value is that value alone. -/
theorem eq_singleton_of_forall_eq {α : Type} {l : List α} {a : α} (distinct : l.Nodup) (member : a ∈ l)
    (all : ∀ b ∈ l, b = a) : l = [a] := by
  match l with
  | [] => simp at member
  | [b] => rw [all b List.mem_cons_self]
  | b :: b' :: l =>
    have same := (all b List.mem_cons_self).trans (all b' (List.mem_cons_of_mem _ List.mem_cons_self)).symm
    simp [same] at distinct

/-- One that qualifies is found, unless the angle lies midway to another. -/
theorem selectCandidate_of_qualifies {current k : Rot} {rho hyst : Nat}
    (h : qualifies current rho hyst k = true) : selectCandidate current rho hyst = some k
      ∨ hyst = 0 ∧ circDist rho k.centre = 720
        ∧ ∃ k', selectCandidate current rho hyst = some k' ∧ k'.centre = (rho + 720) % 5760 := by
  have near := ((qualifies_iff current k rho hyst).mp h).2
  have all : k ∈ [Rot.rot0, .rot90, .rot180, .rot270] := by cases k <;> simp
  have member := List.mem_filter.mpr ⟨all, h⟩
  have distinct : ([Rot.rot0, .rot90, .rot180, .rot270].filter (qualifies current rho hyst)).Nodup :=
    List.Nodup.filter _ (by decide)
  unfold selectCandidate
  split
  · next none => simp [none] at member
  · next only one => simp_all
  · next many one =>
    obtain ⟨other, otherMember, differs⟩ : ∃ other ∈ [Rot.rot0, .rot90, .rot180, .rot270].filter (qualifies current rho hyst),
        other ≠ k := by
      by_contra single
      push Not at single
      exact one k (eq_singleton_of_forall_eq distinct member single)
    have otherNear := ((qualifies_iff _ _ _ _).mp (List.mem_filter.mp otherMember).2).2
    obtain ⟨midway, above⟩ := circDist_midway (rho := rho) differs.symm (by omega) (by omega)
    refine .inr ⟨by omega, midway, ?_⟩
    obtain ⟨k', found⟩ : ∃ k', ([Rot.rot0, .rot90, .rot180, .rot270].filter (qualifies current rho hyst)).find?
        (fun k : Rot => k.centre == (rho + 720) % 5760) = some k' := by
      rw [← Option.isSome_iff_exists, List.find?_isSome]
      obtain above | above := above
      · exact ⟨k, member, beq_iff_eq.mpr above⟩
      · exact ⟨other, otherMember, beq_iff_eq.mpr above⟩
    have above' := List.find?_some found
    exact ⟨k', found, beq_iff_eq.mp above'⟩

/-! ### A lid vector (R67 to R71) -/

theorem tiltPasses_iff (rotMin : Nat) (v : Vec3) : tiltPasses rotMin v = true ↔ (rotMin : Int) ^ 2 ≤ v.x ^ 2 + v.y ^ 2 := by
  have positive : 0 ≤ v.x ^ 2 + v.y ^ 2 := by positivity
  simp only [tiltPasses, decide_eq_true_eq, Int.le_toNat positive, Nat.cast_pow]

theorem deciding_iff (u : RotUnit) : u.deciding = true ↔ u.lock = false ∧ u.policy = .free := by
  simp [RotUnit.deciding]

/-- A lid vector taken while the unit decides. -/
theorem exec_lidVectorDelivery_of_deciding {v : Vec3} {s : State} (deciding : s.rot.lock = false ∧ s.rot.policy = .free) :
    exec (.lidVectorDelivery v) s = .next (decideRotation v (s.took (.lidVectorDelivery v))) :=
  congrArg Host.Outcome.next (if_pos ((deciding_iff s.rot).mpr deciding))

theorem decideRotation_of_flat {v : Vec3} {s : State} (flat : ¬ (s.rot.rotMin : Int) ^ 2 ≤ v.x ^ 2 + v.y ^ 2) :
    decideRotation v s = s.setRot { s.rot.cancel with angle := none } :=
  if_neg (mt (tiltPasses_iff _ _).mp flat)

theorem decideRotation_of_tilted {v : Vec3} {s : State} (tilted : (s.rot.rotMin : Int) ^ 2 ≤ v.x ^ 2 + v.y ^ 2) :
    decideRotation v s = applyDecision (selectCandidate s.rot.rot (direction v.y v.x) s.rot.rotHyst)
      (s.setRot { s.rot with angle := some (direction v.y v.x) }) :=
  if_pos ((tiltPasses_iff _ _).mpr tilted)

/-- Settles O32: the cases of a lid vector, and the candidate of a decision. -/
theorem rotationDecided : Obligations.RotationDecided := by
  refine ⟨fun v s => ?_, fun current k rho hyst _ => ⟨fun found => ?_, fun differs near => ?_⟩, rfl⟩
  · intro c deciding tilted rho found
    have frame : kept [.rot] s (if (s.took c).rot.deciding then decideRotation v (s.took c) else s.took c) :=
      (kept_took _ s c).trans (kept_ite (decideRotation_kept _ _) (kept_refl _ _))
    have arm : exec c s = .next (if (s.took c).rot.deciding then decideRotation v (s.took c) else s.took c) := rfl
    refine ⟨_, arm, frame, fun still => ?_, fun decides flat => ?_, fun decides passes none => ?_,
      fun k decides passes some same => ?_, fun k decides passes some new waits => ?_, fun k decides passes some new now => ?_⟩
    · have still' : ¬ (s.took c).rot.deciding = true := mt (deciding_iff s.rot).mp still
      rw [if_neg still']
      simp [issued]
    all_goals
      have decides' : (s.took c).rot.deciding = true := (deciding_iff s.rot).mpr decides
      rw [if_pos decides']
    · rw [decideRotation_of_flat (s := s.took c) flat]
      simp [issued, RotUnit.cancel]
    all_goals rw [decideRotation_of_tilted (s := s.took c) passes]
    · have none' : selectCandidate (s.took c).rot.rot (direction v.y v.x) (s.took c).rot.rotHyst = .none := none
      rw [none']
      simp [applyDecision, issued, RotUnit.cancel, rho]
    · have some' : selectCandidate (s.took c).rot.rot (direction v.y v.x) (s.took c).rot.rotHyst = .some k := some
      rw [some']
      simp [applyDecision, same, issued, rho]
    · have some' : selectCandidate (s.took c).rot.rot (direction v.y v.x) (s.took c).rot.rotHyst = .some k := some
      rw [some']
      simp [applyDecision, startCandidate, new, waits, issued, rho, State.timer]
    · have some' : selectCandidate (s.took c).rot.rot (direction v.y v.x) (s.took c).rot.rotHyst = .some k := some
      rw [some']
      simp [applyDecision, startCandidate, acceptRotation, new, now, issued, rho, RotUnit.cancel, State.stamp]
  · exact (qualifies_iff _ _ _ _).mp (selectCandidate_qualifies found)
  · exact selectCandidate_of_qualifies ((qualifies_iff _ _ _ _).mpr ⟨differs, near⟩)

/-- Settles O33: the dwell, "no vector", each policy, and the lock by its argument. -/
theorem rotationEvents : Obligations.RotationEvents := by
  intro s ts cancelled
  refine ⟨fun k due candidate => ?_, rfl, fun _ => rfl, fun _ => rfl, rfl, ?_, fun tag lock => ?_⟩
  · change execRotationDwellExpiry s = _
    simp [execRotationDwellExpiry, candidate, due]
    rfl
  · by_cases home : s.rot.rot = .rot0
    · refine congrArg Host.Outcome.next ((if_pos rfl).trans ((if_pos home).trans ?_))
      rw [if_pos home, ← home]
      simp [State.setRot, State.emits, State.took, RotUnit.cancel, cancelled]
    · refine congrArg Host.Outcome.next ((if_pos rfl).trans ((if_neg home).trans ?_))
      rw [if_neg home]
      rfl
  · intro c
    by_cases on : lock = 1
    · exact ⟨_, if_pos on, fun _ => answer_replied _ _ _ _ _ _ _, by simp [on], by simp [on]⟩
    by_cases off : lock = 0
    · exact ⟨_, (if_neg on).trans (if_pos off), fun is => absurd is on, fun _ => answer_replied _ _ _ _ _ _ _, by simp [off]⟩
    · exact ⟨_, (if_neg on).trans (if_neg off), fun is => absurd is on, fun is => absurd is off,
        fun _ _ => answer_replied _ _ _ _ _ _ _⟩

end Sys2Proof.Machine
end

-- PROOFS: the posture classifier's inputs, acceptances and requests (chapter 5; O35 to O37).
section

namespace Sys2Proof.Machine

/-! ### What is published (R88, R89) -/

/-- A change of row publishes each output that differs. -/
theorem publishRow_eq (row : Option Nat) (s : State) :
    let old := s.pcl.published
    let new := s.pcl.outputsOf row
    publishRow row s = { s with
      pcl := { s.pcl with row := row, published := new }
      inflight := s.inflight ++
        ((if old.keyGate = new.keyGate then [] else [.gateDelivery .key new.keyGate])
          ++ (if old.pointerGate = new.pointerGate then [] else [.gateDelivery .pointer new.pointerGate])
          ++ (if old.policy = new.policy then [] else [.policyDelivery new.policy false])
          ++ (if old.allowance = new.allowance then [] else [.allowanceDelivery new.allowance])
          ++ (if old.sleep = new.sleep then [] else [.sleepClassChange new.sleep])) } := rfl

/-- A change of row whose outputs are known. -/
theorem publishRow_of_outputs {row : Option Nat} {s : State} {new : Outputs} (outputs : s.pcl.outputsOf row = new) :
    publishRow row s = (s.setPcl { s.pcl with row := row, published := new }).emits
      ((if s.pcl.published.keyGate = new.keyGate then [] else [.gateDelivery .key new.keyGate])
        ++ (if s.pcl.published.pointerGate = new.pointerGate then [] else [.gateDelivery .pointer new.pointerGate])
        ++ (if s.pcl.published.policy = new.policy then [] else [.policyDelivery new.policy false])
        ++ (if s.pcl.published.allowance = new.allowance then [] else [.allowanceDelivery new.allowance])
        ++ (if s.pcl.published.sleep = new.sleep then [] else [.sleepClassChange new.sleep])) :=
  outputs ▸ rfl

/-- The outputs of a row, or the fallback outputs (R90). -/
theorem outputsOf_eq_match (p : Pcl) (row : Option Nat) :
    p.outputsOf row = (match row with
      | some i => (p.rowAt i).out
      | none => ⟨.pass, .pass, .free, .allow, .none⟩) := by
  cases row <;> rfl

/-- An acceptance and its deliveries in the order of R88. -/
theorem acceptPosture_eq (i : Nat) (s : State) :
    let row := s.pcl.rowAt i
    let old := s.pcl.published
    acceptPosture i s = { s with
      pcl := { s.pcl with
        candidate := none, timer := .cancelled, posture := some row.posture, row := some i, published := row.out }
      inflight := s.inflight ++
        ([.recordOffer (.posture s.pcl.posture row.posture i s.pcl.hinge s.pcl.dock (s.partTime.setWidth 16))]
          ++ (if old.keyGate = row.out.keyGate then [] else [.gateDelivery .key row.out.keyGate])
          ++ (if old.pointerGate = row.out.pointerGate then [] else [.gateDelivery .pointer row.out.pointerGate])
          ++ [.policyDelivery row.out.policy true]
          ++ (if old.allowance = row.out.allowance then [] else [.allowanceDelivery row.out.allowance])
          ++ (match s.pcl.posture with | some q => [.triggerDelivery (.postureLeave q)] | none => [])
          ++ [.triggerDelivery (.postureEnter row.posture), .acceptanceNotice old.sleep row.out.sleep]) } := by
  simp only [acceptPosture, gateDeliveries, ← List.append_assoc [_]]
  rfl

/-! ### Cases of an evaluation (R85, R86) -/

theorem samePosture_of_row {i : Nat} {s : State} (row : s.pcl.row = some i) :
    samePosture i s = s.setPcl { s.pcl with candidate := none, timer := .cancelled } :=
  if_pos row

theorem samePosture_of_otherRow {i : Nat} {s : State} (row : s.pcl.row ≠ some i) :
    samePosture i s = publishRow (some i) (s.setPcl { s.pcl with candidate := none, timer := .cancelled }) :=
  if_neg row

theorem candidateCase_of_same {i j : Nat} {s : State} (candidate : s.pcl.candidate = some j)
    (same : (s.pcl.rowAt j).posture = (s.pcl.rowAt i).posture) :
    candidateCase i s = s.setPcl { s.pcl with candidate := some i } := by
  simp [candidateCase, candidate, same]

theorem candidateCase_of_other {i : Nat} {s : State}
    (other : ∀ j, s.pcl.candidate = some j → (s.pcl.rowAt j).posture ≠ (s.pcl.rowAt i).posture) :
    candidateCase i s = startPosture i s := by
  cases candidate : s.pcl.candidate with
  | none => simp [candidateCase, candidate]
  | some j => simp [candidateCase, candidate, other j candidate]

/-- The commands that give the classifier an input record it and evaluate. -/
theorem exec_input {c : Instr} {time : PartTime} {p : Pcl} {s : State}
    (input : (∃ h q f, c = .hingeDelivery h q f ∧ p = { s.pcl with hinge := h, quality := q, face := f })
      ∨ (∃ st, c = .pclDockStateDelivery st ∧ p = { s.pcl with dock := st })
      ∨ (∃ a, c = .pclHallEvent .front a time ∧ p = { s.pcl with front := a })
      ∨ (∃ a, c = .pclHallEvent .rear a time ∧ p = { s.pcl with rear := a })) :
    exec c s = .next (evaluate ((s.took c).setPcl p)) := by
  obtain ⟨_, _, _, rfl, rfl⟩ | ⟨_, rfl, rfl⟩ | ⟨_, rfl, rfl⟩ | ⟨_, rfl, rfl⟩ := input <;> rfl

/-- Settles O35: an evaluation by the matched row, the current posture and the candidate. -/
theorem inputsEvaluated : Obligations.InputsEvaluated := by
  intro c time p s input
  have frame : kept [.pcl] s (evaluate ((s.took c).setPcl p)) :=
    (kept_took _ s c).trans ((kept_setPcl _ p).trans (evaluate_kept _))
  refine ⟨_, exec_input input, frame, rfl, fun none => ?_, fun i matched same => ?_, fun i matched differs => ?_⟩
  · rw [evaluate_of_noMatch none]
    simp [issued]
  · have step : evaluate ((s.took c).setPcl p) = samePosture i (((s.took c).setPcl p).setPcl { p with noMatch := false }) :=
      (evaluate_of_match (s := (s.took c).setPcl p) matched).trans (if_pos same)
    refine ⟨fun row => ?_, fun row => ?_⟩
    · rw [step.trans (samePosture_of_row (s := ((s.took c).setPcl p).setPcl { p with noMatch := false }) row)]
      exact ⟨rfl, (List.append_nil _).symm⟩
    · rw [step.trans ((samePosture_of_otherRow (s := ((s.took c).setPcl p).setPcl { p with noMatch := false }) row).trans
        (publishRow_eq _ _))]
      exact ⟨rfl, rfl⟩
  · have step : evaluate ((s.took c).setPcl p) = candidateCase i (((s.took c).setPcl p).setPcl { p with noMatch := false }) :=
      (evaluate_of_match (s := (s.took c).setPcl p) matched).trans (if_neg differs)
    have fresh (other : ∀ j, p.candidate = some j → (p.rowAt j).posture ≠ (p.rowAt i).posture) :=
      step.trans (candidateCase_of_other (s := ((s.took c).setPcl p).setPcl { p with noMatch := false }) other)
    refine ⟨fun j candidate posture => ?_, fun other waits => ?_, fun other now => ?_⟩
    · rw [step.trans (candidateCase_of_same (s := ((s.took c).setPcl p).setPcl { p with noMatch := false }) candidate posture)]
      exact ⟨rfl, (List.append_nil _).symm⟩
    · rw [(fresh other).trans (if_neg waits)]
      exact ⟨rfl, (List.append_nil _).symm⟩
    · rw [(fresh other).trans ((if_pos now).trans (acceptPosture_eq i _))]
      exact ⟨rfl, rfl⟩

/-- Settles O36: the acceptance of the candidate row. -/
theorem postureAccepted : Obligations.PostureAccepted := by
  intro i s due candidate row old
  have arm : exec .postureDwellExpiry s = .next (acceptPosture i s) := by
    change execPostureDwellExpiry s = _
    simp [execPostureDwellExpiry, candidate, due]
  refine ⟨_, arm, acceptPosture_kept i s, ?_, ?_⟩
  · rw [acceptPosture_eq]
  · rw [acceptPosture_eq]
    simp only [← List.append_assoc]
    rfl

/-! ### COMMIT of POSTURE (R91) -/

/-- What an evaluation leaves as it was, and the published outputs, which stay those of the current row. -/
def Pcl.evaluated (p p' : Pcl) : Prop :=
  p'.active = p.active ∧ p'.pending = p.pending ∧ p'.hinge = p.hinge ∧ p'.quality = p.quality ∧ p'.face = p.face
  ∧ p'.dock = p.dock ∧ p'.front = p.front ∧ p'.rear = p.rear
  ∧ (p.published = p.outputsOf p.row → p'.published = p'.outputsOf p'.row)

theorem evaluate_evaluated (s : State) : s.pcl.evaluated (evaluate s).pcl := by
  have accepted (i : Nat) (u : State) : u.pcl.evaluated (acceptPosture i u).pcl := by
    rw [acceptPosture_pcl]
    exact ⟨rfl, rfl, rfl, rfl, rfl, rfl, rfl, rfl, fun _ => rfl⟩
  have started (i : Nat) (u : State) : u.pcl.evaluated (startPosture i u).pcl := by
    unfold startPosture
    split
    · exact accepted i u
    · exact ⟨rfl, rfl, rfl, rfl, rfl, rfl, rfl, rfl, id⟩
  cases matched : matchedRow s.pcl with
  | none =>
    rw [evaluate_of_noMatch matched]
    exact ⟨rfl, rfl, rfl, rfl, rfl, rfl, rfl, rfl, id⟩
  | some i =>
    rw [evaluate_of_match matched]
    split
    · unfold samePosture
      dsimp only
      split
      · exact ⟨rfl, rfl, rfl, rfl, rfl, rfl, rfl, rfl, id⟩
      · exact ⟨rfl, rfl, rfl, rfl, rfl, rfl, rfl, rfl, fun _ => rfl⟩
    · unfold candidateCase
      split
      · split
        · exact ⟨rfl, rfl, rfl, rfl, rfl, rfl, rfl, rfl, id⟩
        · exact started i (s.setPcl { s.pcl with noMatch := false })
      · exact started i (s.setPcl { s.pcl with noMatch := false })

/-- The row that a commit makes current is the first in use that names the current posture. -/
theorem remappedRow_eq_some_iff (p : Pcl) (i : Nat) :
    let names (i : Nat) : Prop := ∃ row, p.active[i]? = some row ∧ row.inUse = true ∧ p.posture = some row.posture
    remappedRow p = some i ↔ names i ∧ ∀ j < i, ¬ names j := by
  intro names
  have names_iff (q : Posture) (posture : p.posture = some q) (j : Nat) (inBank : j < p.active.length) :
      names j ↔ (p.active[j].inUse && p.active[j].posture == q) = true := by
    rw [Bool.and_eq_true, beq_iff_eq]
    constructor
    · rintro ⟨row, at_j, used, named⟩
      obtain rfl := Option.some.inj ((List.getElem?_eq_getElem inBank).symm.trans at_j)
      exact ⟨used, Option.some.inj (named.symm.trans posture)⟩
    · rintro ⟨used, rfl⟩
      exact ⟨_, List.getElem?_eq_getElem inBank, used, posture⟩
  cases posture : p.posture with
  | none => simp [remappedRow, posture, names]
  | some q =>
    simp only [remappedRow, posture]
    rw [List.findIdx?_eq_some_iff_getElem]
    constructor
    · rintro ⟨inBank, hit, earlier⟩
      exact ⟨(names_iff q posture i inBank).mpr hit, fun j hj =>
        (names_iff q posture j (hj.trans inBank)).not.mpr (earlier j hj)⟩
    · rintro ⟨hit, earlier⟩
      obtain ⟨row, at_i, -⟩ := id hit
      have inBank := (List.getElem?_eq_some_iff.mp at_i).1
      exact ⟨inBank, (names_iff q posture i inBank).mp hit, fun j hj =>
        (names_iff q posture j (hj.trans inBank)).not.mp (earlier j hj)⟩

/-- The outputs of the row that a commit makes current: that row is in the bank. -/
theorem outputsOf_remappedRow (p : Pcl) :
    p.outputsOf (remappedRow p)
      = (((remappedRow p).bind fun i => p.active[i]?).map PostureRow.out).getD fallbackOutputs := by
  cases found : remappedRow p with
  | none => rfl
  | some i =>
    obtain ⟨⟨row, at_i, -, -⟩, -⟩ := (remappedRow_eq_some_iff p i).mp found
    simp [Pcl.outputsOf, Pcl.rowAt, at_i]

/-- Settles O37: a refused COMMIT, one that is carried out, and CLEAR of NO_MATCH. -/
theorem postureRequests : Obligations.PostureRequests := by
  intro tag s commit clear names
  have any_iff : (s.took commit).pcl.pending.any PostureRow.inUse = true ↔ ∃ r ∈ s.pcl.pending, r.inUse = true :=
    List.any_eq_true
  refine ⟨fun unused => answered (if_neg ?_), fun used => ?_, answered rfl⟩
  · rw [any_iff]
    rintro ⟨r, member, use⟩
    rw [unused r member] at use
    cases use
  · let p : Pcl := { s.pcl with active := s.pcl.pending, candidate := none, timer := .cancelled }
    refine ⟨_, commitPostures (s.took commit), remappedRow p, if_pos (any_iff.mpr used), answer_replied _ _ _ _ _ _ _,
      (kept_took _ s _).trans (commitPostures_kept _), remappedRow_eq_some_iff p, ?_, ?_⟩
    · exact congrArg evaluate (publishRow_of_outputs (s := (s.took commit).setPcl p) (outputsOf_remappedRow p))
    · obtain ⟨active, pending, hinge, quality, face, dock, front, rear, published⟩ :=
        evaluate_evaluated (publishRow (remappedRow p) ((s.took commit).setPcl p))
      exact ⟨active, pending, (published rfl).trans (outputsOf_eq_match _ _), hinge, dock, front, rear, face, quality⟩

end Sys2Proof.Machine
end

-- PROOFS: the action lines and the supply (chapters 6 and 7; O38 and O39).
section

namespace Sys2Proof.Machine

/-! ### Triggers (R104) -/

/-- A line after it has been tested against a trigger. -/
def ActionLine.tested (l : ActionLine) (trigger : Trigger) : ActionLine :=
  if l.fires trigger then l.fired else l

/-- R104: an armed TRIGGERED line that names the trigger takes its staged level, and ONCE disarms it. -/
theorem ActionLine.tested_eq (l : ActionLine) (trigger : Trigger) :
    l.tested trigger =
      if l.mode = .triggered ∧ l.armed = true ∧ l.trigger = trigger then
        { l with level := l.staged, armed := l.rearm = .every }
      else l := by
  have fires_iff : l.fires trigger = true ↔ l.mode = .triggered ∧ l.armed = true ∧ l.trigger = trigger := by
    simp [ActionLine.fires, and_assoc]
  unfold ActionLine.tested
  by_cases fires : l.fires trigger = true
  · obtain ⟨-, armed, -⟩ := fires_iff.mp fires
    rw [if_pos fires, if_pos (fires_iff.mp fires), ActionLine.fired]
    cases l.rearm <;> simp [armed]
  · rw [if_neg fires, if_neg (fires_iff.not.mp fires)]

theorem Alu.put_get (u : Alu) (i : Nat) : u.put i (u.get i) = u := by
  match i with
  | 0 | 1 | 2 | 3 => rfl
  | _ + 4 => rfl

/-- Testing a line: a changed level of AL0 is delivered to the dock link. -/
theorem testLine_eq (trigger : Trigger) (s : State) (i : Nat) :
    testLine trigger s i = putLine i ((s.alu.get i).tested trigger) s := by
  unfold testLine ActionLine.tested
  split
  · rfl
  · rw [putLine_eq, Alu.put_get, if_pos rfl, List.append_nil]

/-- All four lines tested: only AL0 has a delivery. -/
theorem exec_triggerDelivery (trigger : Trigger) (s : State) :
    exec (.triggerDelivery trigger) s = .next { s.took (.triggerDelivery trigger) with
      alu := ⟨s.alu.al0.tested trigger, s.alu.al1.tested trigger, s.alu.al2.tested trigger, s.alu.al3.tested trigger⟩
      inflight := s.inflight.erase (.triggerDelivery trigger)
        ++ if (s.alu.al0.tested trigger).level = s.alu.al0.level then []
          else [.al0LevelDelivery (s.alu.al0.tested trigger).level] } := by
  change execTriggerDelivery trigger s = _
  simp only [execTriggerDelivery, List.foldl, testLine_eq, putLine_eq, Alu.put, Alu.get, ite_true, List.append_nil]
  rfl

/-! ### SET_LINE (R105) -/

theorem readFlag_eq_none {b : Byte} (zero : b ≠ 0) (one : b ≠ 1) : readFlag b = none := by
  rw [readFlag, if_neg zero, if_neg one]

theorem readFlag_of_bit {b : Byte} (bit : b = 0 ∨ b = 1) : readFlag b = some (decide (b = 1)) := by
  rcases bit with rfl | rfl <;> rfl

/-- Settles O38: the lines under a trigger, and SET_LINE with its refusals. -/
theorem linesDriven : Obligations.LinesDriven := by
  refine ⟨fun trigger s => ?_, fun tag line level s => ?_⟩
  · refine ⟨_, exec_triggerDelivery trigger s, ?_, fun i hi => ?_, rfl⟩
    · exact (kept_took _ s (.triggerDelivery trigger)).trans (kept_alu _ _ _)
    · intro l
      rw [← ActionLine.tested_eq]
      have : i = 0 ∨ i = 1 ∨ i = 2 ∨ i = 3 := by omega
      rcases this with rfl | rfl | rfl | rfl <;> rfl
  · intro c
    by_cases bit : level = 0 ∨ level = 1
    · have read := readFlag_of_bit bit
      have not_other (zero : level ≠ 0) (one : level ≠ 1) : False := bit.elim zero one
      by_cases inRange : line.toNat < 4
      · let u := putLine line.toNat ((s.alu.get line.toNat).request (decide (level = 1))) (s.took c)
        have arm : exec c s = .next (answerOk c tag 0x0A u) := by
          change execSetLine tag line level s = _
          simp [execSetLine, read, inRange]
          rfl
        have written : u.alu = s.alu.put line.toNat ((s.alu.get line.toNat).request (decide (level = 1))) := by
          rw [show u = _ from putLine_eq _ _ _]
          rfl
        refine ⟨_, arm, fun zero one => (not_other zero one).elim, fun _ beyond => absurd inRange (by omega), fun _ _ =>
          ⟨u, answer_replied _ _ _ _ _ _ _, (kept_took _ s c).trans (putLine_kept _ _ _), ?_, ?_⟩⟩
        · rw [written]
          cases mode : (s.alu.get line.toNat).mode <;> simp [ActionLine.request, mode]
        · rw [written, issued, show u = _ from putLine_eq _ _ _]
          rfl
      · have arm : exec c s = .next (answerStatus c tag 0x0A .badIndex (s.took c)) := by
          change execSetLine tag line level s = _
          simp [execSetLine, read, inRange]
          rfl
        exact ⟨_, arm, fun zero one => (not_other zero one).elim, fun _ _ => answer_replied _ _ _ _ _ _ _,
          fun _ below => absurd below inRange⟩
    · obtain ⟨zero, one⟩ := not_or.mp bit
      have arm : exec c s = .next (answerStatus c tag 0x0A .badRequest (s.took c)) := by
        change execSetLine tag line level s = _
        simp [execSetLine, readFlag_eq_none zero one]
        rfl
      exact ⟨_, arm, fun _ _ => answer_replied _ _ _ _ _ _ _, fun known => absurd known bit,
        fun known => absurd known bit⟩

/-! ### The supply (R111 to R117) -/

theorem coilCeilingOf_eq (budget : Nat) (a : Allowance) :
    coilCeilingOf budget a = (match a with | .allow => budget | .reduced => budget / 2 | .deny => 0) := by
  cases a <;> rfl

/-- Settles O39: a recomputation on a draw or an allowance; both orders record the same two inputs. -/
theorem supplyRecomputed : Obligations.SupplyRecomputed := by
  refine ⟨fun c draw al s input => ?_, fun draw al s => ?_⟩
  · have arm : exec c s = .next (supplyEvent { s.ssu with draw := draw, allowance := al } (s.took c)) := by
      obtain ⟨rfl, rfl⟩ | ⟨rfl, rfl⟩ := input <;> rfl
    intro budget ceiling pause
    have ceiling_eq : coilCeilingOf budget al = ceiling := coilCeilingOf_eq budget al
    refine ⟨_, arm, (kept_took _ s c).trans (supplyEvent_kept _ _), ?_, ?_⟩
    · rw [supplyEvent_eq, ← ceiling_eq]
      rfl
    · rw [supplyEvent_eq]
      rfl
  · refine ⟨_, _, _, _, rfl, rfl, rfl, rfl, ?_⟩
    simp only [supplyEvent_eq]
    exact ⟨rfl, rfl, rfl⟩

end Sys2Proof.Machine
end

-- PROOFS: the pen charger (chapter 8; O40 to O43).
section

namespace Sys2Proof.Machine

theorem kept.partTime_eq {touched : List Block} {s t : State} (h : kept touched s t) : t.partTime = s.partTime :=
  ((kept_iff_stays touched s t).mp h).2.1

/-! ### Pause reasons and entries (R120, R124) -/

theorem Pch.deny_eq (p : Pch) : p.deny = decide (p.allowance = .deny) := beq_eq_decide _ _

theorem Pch.hasReason_iff (p : Pch) : p.hasReason = true ↔ p.allowance = .deny ∨ p.budgetPause = true := by
  simp [Pch.hasReason, Pch.deny_eq]

/-- The charger waiting in PAUSED for a probe. -/
def Pch.waiting (p : Pch) : Pch :=
  { p with state := .paused .probe (p.allowance = .deny) p.budgetPause, staged := 0 }

/-- The charger in a probe that begins, under a DUTY_MAX in force. -/
def Pch.probing (p : Pch) (dutyMax : Nat) : Pch :=
  { p with state := .probe, staged := min 64 (min dutyMax p.dutyCeiling), probeCount := 0, probePassed := false
           exitStreak := 0, elapsed := 0 }

theorem probeOrPause_of_reason {s : State} (reason : s.pch.allowance = .deny ∨ s.pch.budgetPause = true) :
    probeOrPause s = s.setPch s.pch.waiting := by
  rw [probeOrPause, if_pos (s.pch.hasReason_iff.mpr reason), Pch.deny_eq]
  rfl

theorem probeOrPause_of_no_reason {s : State} (reason : ¬ (s.pch.allowance = .deny ∨ s.pch.budgetPause = true)) :
    probeOrPause s = s.setPch (s.pch.probing s.ssu.dutyMax) :=
  if_neg (s.pch.hasReason_iff.not.mpr reason)

theorem probeOrPause_inflight (s : State) : (probeOrPause s).inflight = s.inflight := by
  rw [probeOrPause_eq]

/-- Settles O40: a pen inserted in EMPTY, and a pen removed from any other state. -/
theorem penComesAndGoes : Obligations.PenComesAndGoes := by
  intro time s ts reason paused
  refine ⟨fun empty => ?_, fun inserted => ?_⟩
  · let s' := (s.took (.penInsertion time)).setPch { s.pch with ocStreak := 0 }
    have arm : exec (.penInsertion time) s = .next (insertPen (s.took (.penInsertion time))) := if_pos empty
    refine ⟨_, arm, (kept_took _ s _).trans (insertPen_kept _), fun why => ?_, fun why => ?_, ?_⟩
    · change (probeOrPause s').pch = _
      rw [probeOrPause_of_reason (s := s') why]
      rfl
    · change (probeOrPause s').pch = _
      rw [probeOrPause_of_no_reason (s := s') why]
      rfl
    · change (probeOrPause s').inflight ++ _ = _
      rw [probeOrPause_inflight]
      rfl
  · have arm : exec (.penRemoval time) s = .next (removePen (s.took (.penRemoval time))) := if_neg inserted
    exact ⟨_, arm, (kept_took _ s _).trans (removePen_kept _), rfl, rfl⟩

/-! ### The interval end (R121, R129, R130) -/

/-- The overcurrent streak after a measurement (R129). -/
def Pch.streakOf (p : Pch) (current : Nat) : Nat := if p.ocLimit < current then p.ocStreak + 1 else 0

/-- The charger with a measured current recorded and its streak counted. -/
def Pch.counted (p : Pch) (current : Nat) : Pch :=
  { p with lastCurrent := current, ocStreak := p.streakOf current }

/-- The state that drives the coil toward a target: PROBE or a stage. -/
def PauseTarget.driving : PauseTarget → ChargerState
  | .probe => .probe
  | .charging k => .charging k

/-- The end of an interval, from the outcome of the state's own handling (steps 3 and 4 of R121). -/
def closeInterval (duty current : Nat) (h : State) : State :=
  let p := { h.pch with applied := h.pch.staged, interval := h.pch.regInterval }
  { h with
    pch := p
    inflight := h.inflight
      ++ [.recordOffer (.chargeTelemetry p.state p.rowKind duty current p.dutyCeiling (h.partTime.setWidth 16))] }

/-- The state's own handling, in a state that drives the coil, after the overcurrent and the pause test. -/
def driveOn (target : PauseTarget) (s : State) : State :=
  match target with
  | .probe => probeEnd s
  | .charging k => regulate k s

theorem exec_intervalEnd (current : Nat) (s : State) :
    exec (.intervalEnd current) s
      = .next (closeInterval s.pch.applied current (handleState (s.setPch { s.pch with lastCurrent := current }))) :=
  rfl

theorem handleState_of_state {s : State} {target : PauseTarget} (driven : s.pch.state = target.driving) :
    handleState s = chargingEnd target s := by
  cases target <;> simp only [handleState, driven, PauseTarget.driving]

/-- The tests of R129 and R130 before the state's own handling. -/
theorem handleState_of_driving {s : State} {target : PauseTarget} (current : Nat) (driven : s.pch.state = target.driving) :
    handleState (s.setPch { s.pch with lastCurrent := current }) =
      let q := s.setPch (s.pch.counted current)
      if 3 ≤ s.pch.streakOf current then enterFault .overcurrent q
      else if q.pch.hasReason then enterPaused target q
      else driveOn target q := by
  rw [handleState_of_state (s := s.setPch { s.pch with lastCurrent := current }) driven]
  cases target <;> rfl

theorem handleState_of_idle {s : State} (probe : s.pch.state ≠ .probe) (charging : ∀ k, s.pch.state ≠ .charging k) :
    handleState s = s := by
  unfold handleState
  split
  · exact absurd ‹_› probe
  · exact absurd ‹_› (charging _)
  · rfl

/-- What the handling of a state keeps: it adds to the deliveries, keeps what the telemetry reports, and keeps the overcurrent
streak unless it enters DONE or FAULT. -/
def State.drives (s h : State) : Prop :=
  (∃ cs, h.inflight = s.inflight ++ cs)
  ∧ h.pch.lastCurrent = s.pch.lastCurrent ∧ h.pch.regInterval = s.pch.regInterval ∧ h.pch.dutyCeiling = s.pch.dutyCeiling
  ∧ h.pch.ocStreak = (match h.pch.state with | .done => 0 | .fault _ _ => 0 | _ => s.pch.ocStreak)

theorem completeStage_drives (k : Nat) (s : State) : s.drives (completeStage k s) := by
  unfold completeStage
  split <;> exact ⟨⟨[], (List.append_nil _).symm⟩, rfl, rfl, rfl, rfl⟩

theorem enterFault_drives (kind : ChargerFault) (s : State) : s.drives (enterFault kind s) :=
  ⟨⟨_, rfl⟩, rfl, rfl, rfl, rfl⟩

theorem driveOn_drives {s : State} {target : PauseTarget} (driven : s.pch.state = target.driving) :
    s.drives (driveOn target s) := by
  cases target with
  | probe =>
    change s.drives (probeEnd s)
    have probe : s.pch.state = .probe := driven
    unfold probeEnd
    dsimp only
    split
    · exact ⟨⟨[], (List.append_nil _).symm⟩, rfl, rfl, rfl, by simp [probe]⟩
    · split
      · exact ⟨⟨[], (List.append_nil _).symm⟩, rfl, rfl, rfl, by simp [probe]⟩
      · split <;> exact ⟨⟨[], (List.append_nil _).symm⟩, rfl, rfl, rfl, rfl⟩
  | charging k =>
    change s.drives (regulate k s)
    have charging : s.pch.state = .charging k := driven
    unfold regulate
    dsimp only
    split
    · exact completeStage_drives k _
    · split
      · split
        · exact completeStage_drives k _
        · exact enterFault_drives .stageTimeout _
      · exact ⟨⟨[], (List.append_nil _).symm⟩, rfl, rfl, rfl, by simp [charging]⟩

theorem handleState_drives {s : State} {target : PauseTarget} (current : Nat) (driven : s.pch.state = target.driving) :
    (s.setPch (s.pch.counted current)).drives (handleState (s.setPch { s.pch with lastCurrent := current })) := by
  rw [handleState_of_driving current driven]
  dsimp only
  split
  · exact enterFault_drives .overcurrent _
  · split
    · cases target <;> exact ⟨⟨[], (List.append_nil _).symm⟩, rfl, rfl, rfl, rfl⟩
    · exact driveOn_drives (s := s.setPch (s.pch.counted current)) driven

/-- The telemetry at the end of an interval stands behind what the handling has added. -/
theorem closeInterval_inflight {s h : State} {cs : List Instr} (duty current : Nat) (time : h.partTime = s.partTime)
    (ceiling : h.pch.dutyCeiling = s.pch.dutyCeiling) (queue : h.inflight = s.inflight ++ cs) :
    (closeInterval duty current h).inflight = s.inflight ++ cs
      ++ [.recordOffer (.chargeTelemetry (closeInterval duty current h).pch.state (closeInterval duty current h).pch.rowKind
        duty current s.pch.dutyCeiling (s.partTime.setWidth 16))] := by
  rw [← ceiling, ← time, ← queue]
  rfl

theorem exists_target_iff (st : ChargerState) :
    (∃ target : PauseTarget, st = target.driving) ↔ st = .probe ∨ ∃ k, st = .charging k := by
  constructor
  · rintro ⟨target, rfl⟩
    cases target with
    | probe => exact .inl rfl
    | charging k => exact .inr ⟨k, rfl⟩
  · rintro (rfl | ⟨k, rfl⟩)
    · exact ⟨.probe, rfl⟩
    · exact ⟨.charging k, rfl⟩

theorem closeInterval_kept (duty current : Nat) (h : State) : kept [.pch] h (closeInterval duty current h) :=
  kept_pch h _ _

/-- Settles O41: each case of an interval end's tests. -/
theorem intervalEnds : Obligations.IntervalEnds := by
  intro current s streak reason driven ts measured
  have frame : kept [.pch] s (closeInterval s.pch.applied current
      (handleState (s.setPch { s.pch with lastCurrent := current }))) :=
    ((kept_setPch s _).trans (handleState_kept _)).trans (closeInterval_kept _ _ _)
  refine ⟨_, exec_intervalEnd current s, frame, ?_⟩
  by_cases active : driven
  · obtain ⟨target, state⟩ := (exists_target_iff _).mpr active
    have handled := handleState_of_driving current state
    obtain ⟨⟨cs, queue⟩, measure, interval, ceiling, streaks⟩ := handleState_drives current state
    have time := ((kept_setPch s { s.pch with lastCurrent := current }).trans (handleState_kept _)).partTime_eq
    have added {h : State} {ds : List Instr} (outcome : handleState (s.setPch { s.pch with lastCurrent := current }) = h)
        (adds : h.inflight = s.inflight ++ ds) : cs = ds :=
      List.append_cancel_left (queue.symm.trans ((congrArg State.inflight outcome).trans adds))
    have paused (below : streak < 3) (why : reason) := (handled.trans (if_neg (Nat.not_le.mpr below))).trans
      (if_pos ((s.pch.counted current).hasReason_iff.mpr why))
    refine ⟨measure, rfl, interval, cs, closeInterval_inflight _ _ time ceiling queue, fun probe charging => ?_,
      fun _ above => ?_, fun probe below why => ?_, fun k charging below why => ?_, fun _ => streaks⟩
    · exact (active.elim probe fun ⟨k, charges⟩ => charging k charges).elim
    · have outcome := handled.trans (if_pos above)
      rw [outcome]
      exact ⟨rfl, added outcome rfl⟩
    · obtain rfl : target = .probe := by cases target <;> simp_all [PauseTarget.driving]
      rw [paused below why]
      refine ⟨added (paused below why) (List.append_nil _).symm, ?_⟩
      rw [enterPaused, Pch.deny_eq]
      rfl
    · obtain rfl : target = .charging k := by cases target <;> simp_all [PauseTarget.driving]
      rw [paused below why]
      refine ⟨added (paused below why) (List.append_nil _).symm, ?_⟩
      rw [enterPaused, Pch.deny_eq]
      rfl
  · obtain ⟨probe, charging⟩ := not_or.mp active
    have idle := handleState_of_idle (s := s.setPch { s.pch with lastCurrent := current }) probe (not_exists.mp charging)
    rw [idle]
    exact ⟨rfl, rfl, rfl, [], closeInterval_inflight _ _ rfl rfl (List.append_nil _).symm, fun _ _ => ⟨rfl, rfl⟩,
      fun now => absurd now active, fun now => absurd now probe, fun k now => absurd ⟨k, now⟩ charging,
      fun now => absurd now active⟩

/-! ### Regulation (R125 to R128) -/

theorem clampNat_eq (top : Nat) (v : Int) : clampNat top v = min top v.toNat := by
  unfold clampNat clampInt
  split_ifs <;> omega

/-- The duty moves by one step toward the target and not past the bound (R125). -/
theorem newDuty_eq (s : State) (target : Nat) :
    newDuty s target =
      if s.pch.lastCurrent + s.pch.regBand < target then min s.bound (s.pch.staged + s.pch.regStep)
      else if target + s.pch.regBand < s.pch.lastCurrent then min s.bound (s.pch.staged - s.pch.regStep)
      else min s.bound s.pch.staged := by
  simp only [newDuty, clampNat_eq]
  split_ifs <;> omega

/-- The charger after the regulation of stage `k`, before its exit and limit tests. -/
def State.regulated (s : State) (k : Nat) : Pch :=
  { s.pch with
    staged := newDuty s (s.pch.rowAt k).target
    elapsed := s.pch.elapsed + s.pch.interval
    exitStreak := exitStreakAfter s (s.pch.rowAt k) }

theorem regulate_of_continues {k : Nat} {s : State} (exits : exitStreakAfter s (s.pch.rowAt k) < 5)
    (limit : s.pch.elapsed + s.pch.interval < (s.pch.rowAt k).limit * 1000) :
    regulate k s = s.setPch (s.regulated k) :=
  (if_neg (Nat.not_le.mpr exits)).trans (if_neg (Nat.not_le.mpr limit))

theorem regulate_of_complete {k : Nat} {s : State}
    (ends : 5 ≤ exitStreakAfter s (s.pch.rowAt k)
      ∨ ((s.pch.rowAt k).limit * 1000 ≤ s.pch.elapsed + s.pch.interval ∧ (s.pch.rowAt k).action = .next)) :
    regulate k s = completeStage k (s.setPch (s.regulated k)) := by
  by_cases exits : 5 ≤ exitStreakAfter s (s.pch.rowAt k)
  · exact if_pos exits
  · obtain ⟨limit, action⟩ := ends.resolve_left exits
    refine (if_neg exits).trans ((if_pos limit).trans ?_)
    rw [action]
    rfl

theorem regulate_of_timeout {k : Nat} {s : State} (exits : exitStreakAfter s (s.pch.rowAt k) < 5)
    (limit : (s.pch.rowAt k).limit * 1000 ≤ s.pch.elapsed + s.pch.interval) (action : (s.pch.rowAt k).action = .fault) :
    regulate k s = enterFault .stageTimeout (s.setPch (s.regulated k)) := by
  refine (if_neg (Nat.not_le.mpr exits)).trans ((if_pos limit).trans ?_)
  rw [action]
  rfl

theorem completeStage_of_next {k : Nat} {s : State} (next : k < 5 ∧ (s.pch.rowAt (k + 1)).inUse = true) :
    completeStage k s = s.setPch { s.pch with state := .charging (k + 1), elapsed := 0, exitStreak := 0 } :=
  if_pos next

theorem completeStage_of_last {k : Nat} {s : State} (last : ¬ (k < 5 ∧ (s.pch.rowAt (k + 1)).inUse = true)) :
    completeStage k s = enterDone s :=
  if_neg last

theorem completeStage_inflight (k : Nat) (s : State) : (completeStage k s).inflight = s.inflight := by
  unfold completeStage
  split <;> rfl

/-! ### The probe (R124) -/

theorem probeEnd_of_first {s : State} (first : s.pch.probePassed = false) :
    probeEnd s = s.setPch { s.pch with probePassed := true } := by
  simp [probeEnd, first]

theorem probeEnd_of_early {s : State} (passed : s.pch.probePassed = true) (early : s.pch.probeCount < 2) :
    probeEnd s = s.setPch { s.pch with probeCount := s.pch.probeCount + 1, staged := s.probeDuty } := by
  simp only [probeEnd, passed]
  exact if_pos (Nat.succ_lt_succ early)

theorem probeEnd_of_found {s : State} (passed : s.pch.probePassed = true) (third : 2 ≤ s.pch.probeCount)
    (found : s.pch.probeMin ≤ s.pch.lastCurrent) :
    probeEnd s = s.setPch
      { s.pch with probeCount := s.pch.probeCount + 1, state := .charging 0, elapsed := 0, exitStreak := 0 } := by
  simp only [probeEnd, passed]
  exact (if_neg (Nat.not_lt.mpr (Nat.succ_le_succ third))).trans (if_pos found)

theorem probeEnd_of_absent {s : State} (passed : s.pch.probePassed = true) (third : 2 ≤ s.pch.probeCount)
    (absent : s.pch.lastCurrent < s.pch.probeMin) :
    probeEnd s = enterDone (s.setPch { s.pch with probeCount := s.pch.probeCount + 1 }) := by
  simp only [probeEnd, passed]
  exact (if_neg (Nat.not_lt.mpr (Nat.succ_le_succ third))).trans (if_neg (Nat.not_le.mpr absent))

theorem probeEnd_inflight (s : State) : (probeEnd s).inflight = s.inflight := by
  unfold probeEnd
  dsimp only
  split
  · rfl
  · split
    · rfl
    · split <;> rfl

/-- With no overcurrent and no pause reason, the state's own handling acts. -/
theorem handleState_of_quiet {s : State} {target : PauseTarget} {current : Nat} (driven : s.pch.state = target.driving)
    (allowed : s.pch.allowance ≠ .deny) (budget : s.pch.budgetPause = false)
    (streak : ¬ (s.pch.ocLimit < current ∧ 2 ≤ s.pch.ocStreak)) :
    handleState (s.setPch { s.pch with lastCurrent := current }) = driveOn target (s.setPch (s.pch.counted current)) := by
  have below : ¬ 3 ≤ s.pch.streakOf current := by
    unfold Pch.streakOf
    split <;> omega
  have none : ¬ (s.pch.counted current).hasReason = true := by
    rw [Pch.hasReason_iff]
    exact not_or.mpr ⟨allowed, by simp [Pch.counted, budget]⟩
  exact (handleState_of_driving current driven).trans ((if_neg below).trans (if_neg none))

theorem rowKind_eq (p : Pch) :
    p.rowKind = match p.state with
      | .charging k | .paused (.charging k) _ _ => some (p.rowAt k).kind
      | _ => none := by
  unfold Pch.rowKind
  match p.state with
  | .charging _ | .paused (.charging _) _ _ | .paused .probe _ _ | .empty | .probe | .done | .fault _ _ => rfl

/-- Settles O42: a stage's regulation and ends, and the four cases of a probe. -/
theorem chargeRegulated : Obligations.ChargeRegulated := by
  refine ⟨?_, ?_, fun p => ⟨fun k r at_k => by simp [Pch.rowAt, at_k], rowKind_eq p⟩⟩
  · intro current k s state allowed budget streak row bound duty exits elapsed follows measured regulated timedOut ts
    have handled : handleState (s.setPch { s.pch with lastCurrent := current }) = regulate k (s.setPch (s.pch.counted current)) :=
      handleState_of_quiet (target := .charging k) state allowed budget streak
    have frame := (kept_setPch s { s.pch with lastCurrent := current }).trans (handleState_kept _)
    obtain ⟨-, -, -, ceiling, -⟩ := handleState_drives (target := .charging k) current state
    have exits_eq : exitStreakAfter (s.setPch (s.pch.counted current)) row = exits := by
      unfold exitStreakAfter
      cases h : row.exitBelow with
      | none => simp only [exits, h]
      | some e => simp only [exits, h]; rfl
    have shape : (s.setPch (s.pch.counted current)).regulated k =
        { regulated with applied := s.pch.applied, interval := s.pch.interval } := by
      have duty_eq : newDuty (s.setPch (s.pch.counted current)) row.target = duty := newDuty_eq _ _
      change { s.pch.counted current with
        staged := newDuty (s.setPch (s.pch.counted current)) row.target
        elapsed := elapsed, exitStreak := exitStreakAfter (s.setPch (s.pch.counted current)) row } = _
      rw [duty_eq, exits_eq]
      rfl
    have continues (below : exits < 5) (limit : elapsed < row.limit * 1000) :=
      handled.trans (regulate_of_continues (s := s.setPch (s.pch.counted current)) (exits_eq ▸ below) limit)
    have complete (ends : 5 ≤ exits ∨ (row.limit * 1000 ≤ elapsed ∧ row.action = .next)) :=
      handled.trans (regulate_of_complete (s := s.setPch (s.pch.counted current)) (exits_eq ▸ ends))
    have timeout (below : exits < 5) (limit : row.limit * 1000 ≤ elapsed) (action : row.action = .fault) :=
      handled.trans (regulate_of_timeout (s := s.setPch (s.pch.counted current)) (exits_eq ▸ below) limit action)
    refine ⟨_, exec_intervalEnd current s, frame.trans (closeInterval_kept _ _ _), fun below limit => ?_, fun ends =>
      ⟨fun last => ?_, fun next => ?_⟩, fun below limit action => ?_,
      closeInterval_inflight _ _ frame.partTime_eq ceiling ?_⟩
    · rw [continues below limit, shape]
      rfl
    · have unused : ¬ (k < 5 ∧ (s.pch.rowAt (k + 1)).inUse = true) := fun used => by simp [follows, used] at last
      rw [complete ends, shape, completeStage_of_last (by exact unused)]
      rfl
    · have used : k < 5 ∧ (s.pch.rowAt (k + 1)).inUse = true := by
        by_contra unused
        exact next (if_neg unused)
      have follows_eq : follows = .charging (k + 1) := if_pos used
      rw [complete ends, shape, completeStage_of_next (by exact used), follows_eq]
      rfl
    · rw [timeout below limit action, shape]
      rw [enterFault_eq]
      simp [closeInterval, regulated, measured, state, ChargerState.stage]
    · by_cases late : exits < 5 ∧ row.limit * 1000 ≤ elapsed ∧ row.action = .fault
      · obtain ⟨below, limit, action⟩ := late
        have now : timedOut = true := decide_eq_true ⟨below, limit, action⟩
        rw [timeout below limit action, enterFault_eq, if_pos now, shape]
        change s.inflight ++ [.recordOffer (.fault (.charger .stageTimeout s.pch.state.stage current) ts), _] = _
        rw [state]
        rfl
      · have not_now : ¬ timedOut = true := fun now => late (of_decide_eq_true now)
        rw [if_neg not_now, List.append_nil]
        by_cases ends : 5 ≤ exits ∨ (row.limit * 1000 ≤ elapsed ∧ row.action = .next)
        · rw [complete ends, completeStage_inflight]
          rfl
        · obtain ⟨below, waits⟩ := not_or.mp ends
          have limit : elapsed < row.limit * 1000 := by
            by_contra beyond
            cases action : row.action with
            | next => exact waits ⟨Nat.not_lt.mp beyond, action⟩
            | fault => exact late ⟨Nat.not_le.mp below, Nat.not_lt.mp beyond, action⟩
          rw [continues (Nat.not_le.mp below) limit]
          rfl
  · intro current s state allowed budget streak measured counted duty
    have handled : handleState (s.setPch { s.pch with lastCurrent := current }) = probeEnd (s.setPch (s.pch.counted current)) :=
      handleState_of_quiet (target := .probe) state allowed budget streak
    have frame := (kept_setPch s { s.pch with lastCurrent := current }).trans (handleState_kept _)
    obtain ⟨-, -, -, ceiling, -⟩ := handleState_drives (target := .probe) current state
    have queue : (handleState (s.setPch { s.pch with lastCurrent := current })).inflight = s.inflight ++ [] := by
      rw [handled, probeEnd_inflight, List.append_nil]
      rfl
    have issues := closeInterval_inflight s.pch.applied current frame.partTime_eq ceiling queue
    rw [List.append_nil] at issues
    refine ⟨_, exec_intervalEnd current s, frame.trans (closeInterval_kept _ _ _), issues, fun first => ?_,
      fun passed early => ?_, fun passed third found => ?_, fun passed third absent => ?_⟩
    · rw [handled, probeEnd_of_first (by exact first)]
      rfl
    · rw [handled, probeEnd_of_early (by exact passed) (by exact early)]
      rfl
    · rw [handled, probeEnd_of_found (by exact passed) (by exact third) (by exact found)]
      rfl
    · rw [handled, probeEnd_of_absent (by exact passed) (by exact third) (by exact absent)]
      rfl

/-! ### Restarts (R128, R131, R132, R134) -/

theorem resume_of_reason {target : PauseTarget} {s : State} (reason : s.pch.allowance = .deny ∨ s.pch.budgetPause = true) :
    resume target s = s.setPch { s.pch with state := .paused target (s.pch.allowance = .deny) s.pch.budgetPause } := by
  refine (if_pos (s.pch.hasReason_iff.mpr reason)).trans ?_
  rw [Pch.deny_eq]

theorem resume_of_no_reason {target : PauseTarget} {s : State}
    (reason : ¬ (s.pch.allowance = .deny ∨ s.pch.budgetPause = true)) :
    resume target s = (match target with
      | .probe => s.setPch (s.pch.probing s.ssu.dutyMax)
      | .charging k => s.setPch { s.pch with state := .charging k, staged := 0 }) :=
  (if_neg (s.pch.hasReason_iff.not.mpr reason)).trans (by cases target <;> rfl)

theorem resume_inflight (target : PauseTarget) (s : State) : (resume target s).inflight = s.inflight := by
  unfold resume
  split
  · rfl
  · cases target <;> rfl

theorem commitProfileState_of_charging {k : Nat} {s : State} (state : s.pch.state = .charging k) :
    commitProfileState s =
      let s' := probeOrPause (s.setPch { s.pch with elapsed := 0, exitStreak := 0 })
      if s.pch.hasReason then s'.setPch { s'.pch with applied := 0 } else s' := by
  simp only [commitProfileState, state]

theorem commitProfileState_of_paused {target : PauseTarget} {d b : Bool} {s : State} (state : s.pch.state = .paused target d b) :
    commitProfileState s = s.setPch { s.pch with state := .paused .probe d b, elapsed := 0, exitStreak := 0 } := by
  simp only [commitProfileState, state]

theorem commitProfileState_of_other {s : State} (charging : ∀ k, s.pch.state ≠ .charging k)
    (paused : ∀ g d b, s.pch.state ≠ .paused g d b) : commitProfileState s = s := by
  unfold commitProfileState
  split
  · exact absurd ‹_› (charging _)
  · exact absurd ‹_› (paused _ _ _)
  · rfl

theorem commitProfileState_inflight (s : State) : (commitProfileState s).inflight = s.inflight := by
  unfold commitProfileState
  split
  · dsimp only
    split <;> exact probeOrPause_inflight _
  · rfl
  · rfl

/-- A start of the probe, or a wait for it, in the charger alone. -/
theorem probeOrPause_restarts (s : State) :
    ((s.pch.allowance = .deny ∨ s.pch.budgetPause = true) → (probeOrPause s).pch = s.pch.waiting)
    ∧ (¬ (s.pch.allowance = .deny ∨ s.pch.budgetPause = true) → (probeOrPause s).pch = s.pch.probing s.ssu.dutyMax) :=
  ⟨fun reason => congrArg State.pch (probeOrPause_of_reason reason),
    fun reason => congrArg State.pch (probeOrPause_of_no_reason reason)⟩

/-- Settles O43: the SSU result by the charger's state, and the events that start a charge again. -/
theorem chargerRestarts : Obligations.ChargerRestarts := by
  refine ⟨?_, ?_⟩
  · intro al ceiling pause s c p
    by_cases paused : ∃ g d b, s.pch.state = .paused g d b
    · obtain ⟨g, d, b, state⟩ := paused
      have arm : exec c s = .next (resume g ((s.took c).setPch p)) := by
        change execSsuResultDelivery al ceiling pause s = _
        simp only [execSsuResultDelivery, State.setPch_pch, State.took_pch, state]
        rfl
      refine ⟨_, arm, (kept_took _ s c).trans ((kept_setPch _ p).trans (resume_kept g _)), ?_,
        fun other => absurd state (other g d b), fun g' d' b' state' => ?_⟩
      · rw [issued, resume_inflight, List.append_nil]
        rfl
      · obtain ⟨rfl, -, -⟩ : g = g' ∧ d = d' ∧ b = b' := by simpa [state] using state'
        refine ⟨fun reason => ?_, fun allowed budget k charging => ?_, fun allowed budget probe => ?_⟩
        · rw [resume_of_reason (by exact reason)]
          rfl
        · have none : ¬ (al = .deny ∨ pause = true) := not_or.mpr ⟨allowed, by simp [budget]⟩
          rw [resume_of_no_reason (by exact none), charging]
          rfl
        · have none : ¬ (al = .deny ∨ pause = true) := not_or.mpr ⟨allowed, by simp [budget]⟩
          rw [resume_of_no_reason (by exact none), probe]
          rfl
    · have arm : exec c s = .next ((s.took c).setPch p) := by
        change execSsuResultDelivery al ceiling pause s = _
        unfold execSsuResultDelivery
        dsimp only
        split
        · exact absurd ⟨_, _, _, ‹_›⟩ paused
        · rfl
      exact ⟨_, arm, (kept_took _ s c).trans (kept_setPch _ p), (List.append_nil _).symm, fun _ => rfl,
        fun g d b state => absurd ⟨g, d, b, state⟩ paused⟩
  · intro tag s reason clear commit paused probing restarted
    refine ⟨fun due done => ?_, fun kind stage fault => ?_, fun other => ?_, ?_⟩
    · have arm : exec .rechargeTimerExpiry s = .next (probeOrPause (s.setPch { s.pch with rechargeTimer := .cancelled })) :=
        if_pos ⟨due, done⟩
      exact ⟨_, arm, (kept_setPch s _).trans (probeOrPause_kept _), probeOrPause_inflight _,
        probeOrPause_restarts (s.setPch { s.pch with rechargeTimer := .cancelled })⟩
    · let q := (s.took clear).setPch { s.pch with ocStreak := 0 }
      have cleared : clearFault (s.took clear) = probeOrPause q := by
        simp only [clearFault, State.took_pch, fault]
        rfl
      refine ⟨_, probeOrPause q, congrArg (fun u => Host.Outcome.next (answerOk clear tag 0x0B u)) cleared,
        answer_replied _ _ _ _ _ _ _, (kept_took _ s clear).trans ((kept_setPch _ _).trans (probeOrPause_kept _)), ?_,
        probeOrPause_restarts q⟩
      rw [issued, probeOrPause_inflight, List.append_nil]
      rfl
    · have kept : clearFault (s.took clear) = s.took clear := by
        unfold clearFault
        split
        · exact absurd ‹_› (other _ _)
        · rfl
      exact ⟨_, congrArg (fun u => Host.Outcome.next (answerOk clear tag 0x0B u)) kept, answer_replied _ _ _ _ _ _ _⟩
    · let q := (s.took commit).setPch { s.pch with active := s.pch.pending }
      refine ⟨_, commitProfileState q, rfl, answer_replied _ _ _ _ _ _ _,
        (kept_took _ s commit).trans ((kept_setPch _ _).trans (commitProfileState_kept _)), ?_, fun k state => ?_,
        fun g d b state => ?_, fun charging paused => ?_⟩
      · rw [issued, commitProfileState_inflight, List.append_nil]
        rfl
      · obtain ⟨waits, probes⟩ := probeOrPause_restarts (q.setPch { q.pch with elapsed := 0, exitStreak := 0 })
        refine ⟨fun why => ?_, fun why => ?_⟩
        · rw [commitProfileState_of_charging (s := q) state, if_pos (q.pch.hasReason_iff.mpr why), State.setPch_pch, waits why]
          rfl
        · rw [commitProfileState_of_charging (s := q) state, if_neg (q.pch.hasReason_iff.not.mpr why), probes why]
          rfl
      · rw [commitProfileState_of_paused (s := q) state]
        rfl
      · rw [commitProfileState_of_other (s := q) charging paused]
        rfl

end Sys2Proof.Machine
end

-- PROOFS: the sleep/wake arbiter (chapter 9; O44 to O46).
section

namespace Sys2Proof.Machine

/-! ### Wake-class and activity events (R140 to R142) -/

/-- WAKE_MASK holds one weight per kind (9.6). -/
theorem masked_iff (mask : Byte) (r : WakeReason) : masked mask r = true ↔ mask.toNat / 2 ^ r.code % 2 = 1 := by
  simp [masked, BitVec.getLsbD, Nat.testBit_eq_decide_div_mod_eq]

/-- Whether a wake-class event of kind `r` serves the wake (R142). -/
def Swa.serves (a : Swa) (r : WakeReason) : Bool := decide (a.platform = .asleep) && masked a.wakeMask r

theorem Swa.serves_iff (a : Swa) (r : WakeReason) :
    a.serves r = true ↔ a.platform = .asleep ∧ masked a.wakeMask r = true := by
  simp [Swa.serves]

/-- The record of a wake that is raised (R142). -/
def Swa.wakeRecord (a : Swa) (r : WakeReason) (ts : Stamp) : List Instr :=
  if a.serves r = true ∧ a.wakeRaised = false then [.recordOffer (.sleep (.wake r (a.wakeSet ||| r.bit)) ts)] else []

/-- The record of advice that an activity event withdraws (R147). -/
def Swa.withdrawal (s : Swa) (a : Activity) (ts : Stamp) : List Instr :=
  match s.platform, s.advice with
  | .awake, some reason => [.recordOffer (.sleep (.withdrawn reason (.activity a)) ts)]
  | _, _ => []

/-- A wake-class event: its time is recorded, and a served wake is raised with its record or gathers the reason. -/
theorem wakeClass_eq (r : WakeReason) (s : State) : wakeClass r s = { s with
    swa := { s.swa with
      lastWake := some s.partTime
      wakeRaised := s.swa.serves r || s.swa.wakeRaised
      wakeSet := if s.swa.serves r then s.swa.wakeSet ||| r.bit else s.swa.wakeSet }
    inflight := s.inflight ++ s.swa.wakeRecord r s.stamp } := by
  unfold wakeClass Swa.wakeRecord
  by_cases serves : s.swa.serves r = true
  · refine (if_pos ((s.swa.serves_iff r).mp serves)).trans ?_
    rw [wakeFor_eq]
    cases raised : s.swa.wakeRaised <;> simp [State.setSwa, serves, raised]
  · refine (if_neg ((s.swa.serves_iff r).not.mp serves)).trans ?_
    simp [State.setSwa, serves]

/-- An occurrence: first as a wake-class event, then as an activity event (R140). -/
def occurred (wake : Option WakeReason) (act : Option Activity) (s : State) : State :=
  let s' := match wake with | some r => wakeClass r s | none => s
  match act with | some a => activity a s' | none => s'

theorem occurred_kept (wake : Option WakeReason) (act : Option Activity) (s : State) : kept [.swa] s (occurred wake act s) := by
  cases wake <;> cases act
  · exact kept_refl _ s
  · exact activity_kept _ s
  · exact wakeClass_kept _ s
  · exact (wakeClass_kept _ s).trans (activity_kept _ _)

/-- Whether the wake is served by an occurrence. -/
def Swa.servedBy (a : Swa) (wake : Option WakeReason) : Bool :=
  match wake with | some r => a.serves r | none => false

theorem Swa.servedBy_iff (a : Swa) (wake : Option WakeReason) :
    a.servedBy wake = true ↔ a.platform = .asleep ∧ ∃ r, wake = some r ∧ masked a.wakeMask r = true := by
  cases wake <;> simp [Swa.servedBy, Swa.serves_iff]

/-- The arbiter after an occurrence. -/
theorem occurred_swa (wake : Option WakeReason) (act : Option Activity) (s : State) : (occurred wake act s).swa = { s.swa with
    lastWake := if wake.isSome then some s.partTime else s.swa.lastWake
    wakeRaised := s.swa.servedBy wake || s.swa.wakeRaised
    wakeSet := if s.swa.servedBy wake then s.swa.wakeSet ||| (wake.map WakeReason.bit).getD 0 else s.swa.wakeSet
    advice := if act.isSome ∧ s.swa.platform = .awake then none else s.swa.advice
    idleTimer := if act = none then s.swa.idleTimer
      else if s.swa.idleTimeout = 0 then .cancelled
      else .running (s.partTime + BitVec.ofNat 32 (s.swa.idleTimeout * 1000)) } := by
  cases wake <;> cases act <;> simp [occurred, wakeClass_eq, activity_eq, Swa.servedBy, State.timer] <;> rfl

/-- The records of an occurrence: of a wake that is raised, and of standing advice that is withdrawn. -/
theorem occurred_inflight (wake : Option WakeReason) (act : Option Activity) (s : State) :
    (occurred wake act s).inflight = s.inflight
      ++ (wake.elim [] fun r => s.swa.wakeRecord r s.stamp) ++ (act.elim [] fun a => s.swa.withdrawal a s.stamp) := by
  cases wake <;> cases act <;> simp [occurred, wakeClass_eq, activity_eq, Swa.withdrawal, State.stamp] <;> rfl

/-- Settles O44: the nine occurrences, by the wake they serve and the activity they are. -/
theorem occurrencesTaken : Obligations.OccurrencesTaken := by
  refine ⟨fun mask r weight row => ?_, rfl, fun c wake act s row => ?_⟩
  · rw [masked_iff]
    simp only [List.mem_cons, Prod.mk.injEq, List.not_mem_nil, or_false] at row
    rcases row with ⟨rfl, rfl⟩ | ⟨rfl, rfl⟩ | ⟨rfl, rfl⟩ | ⟨rfl, rfl⟩ | ⟨rfl, rfl⟩ | ⟨rfl, rfl⟩ | ⟨rfl, rfl⟩ | ⟨rfl, rfl⟩ <;>
      exact ⟨Iff.rfl, rfl⟩
  · have arm : exec c s = .next (occurred wake act (s.took c)) := by
      simp only [List.mem_cons, Prod.mk.injEq, List.not_mem_nil, or_false] at row
      rcases row with ⟨rfl, rfl, rfl⟩ | ⟨rfl, rfl, rfl⟩ | ⟨rfl, rfl, rfl⟩ | ⟨rfl, rfl, rfl⟩ | ⟨rfl, rfl, rfl⟩ | ⟨rfl, rfl, rfl⟩
        | ⟨rfl, rfl, rfl⟩ | ⟨rfl, rfl, rfl⟩ | ⟨rfl, rfl, rfl⟩ <;> rfl
    intro served set ts
    have served_iff : s.swa.servedBy wake = true ↔ served := Swa.servedBy_iff _ _
    have swa := occurred_swa wake act (s.took c)
    have queue := occurred_inflight wake act (s.took c)
    have frame := (kept_took _ s c).trans (occurred_kept wake act (s.took c))
    generalize occurred wake act (s.took c) = t at arm swa queue frame
    simp only [State.took_swa] at swa queue
    refine ⟨t, arm, frame, by rw [swa], by rw [swa]; rfl, fun serves => ?_, fun serves => ?_, by rw [swa]; rfl, by rw [swa]; rfl,
      by rw [swa], by rw [swa], by rw [swa], fun r wakes serves raised => ?_, fun a reason acts awake advice => ?_,
      fun quiet calm => ?_⟩
    · rw [swa]
      simp [served_iff.mpr serves, set]
    · rw [swa]
      simp [Bool.eq_false_iff.mpr (served_iff.not.mpr serves)]
    · obtain ⟨asleep, -⟩ := id serves
      have serves' : s.swa.serves r = true := by simpa [wakes, Swa.servedBy] using served_iff.mpr serves
      rw [issued, queue]
      cases act <;> simp [wakes, Swa.wakeRecord, Swa.withdrawal, serves', raised, asleep, set, ts, State.stamp]
    · have unserved (r : WakeReason) : s.swa.serves r = false := by simp [Swa.serves, awake]
      rw [issued, queue]
      cases wake <;> simp [acts, Swa.wakeRecord, Swa.withdrawal, unserved, awake, advice, ts, State.stamp]
    · have silent (r : WakeReason) (wakes : wake = some r) (now : Stamp) : s.swa.wakeRecord r now = [] :=
        if_neg fun ⟨serves, raised⟩ => quiet ⟨served_iff.mp (by simp [Swa.servedBy, wakes, serves]), raised⟩
      have untouched (a : Activity) (acts : act = some a) (now : Stamp) : s.swa.withdrawal a now = [] := by
        unfold Swa.withdrawal
        split
        · exact absurd ⟨by simp [acts], ‹_›, by simp [*]⟩ calm
        · rfl
      rw [issued, queue]
      cases wake <;> cases act <;> simp [silent, untouched]

/-! ### Classes and timers (R143 to R146) -/

theorem closedHoldAct_eq (s : State) :
    closedHoldAct s = if s.swa.platform = .awake ∧ s.swa.advice ≠ some .lidClosed then advise .lidClosed s else s := by
  unfold closedHoldAct
  cases platform : s.swa.platform
  · cases advice : s.swa.advice with
    | none => simp
    | some reason => cases reason <;> simp
  · simp

theorem holdStep_eq (old new : SleepClass) (s : State) : holdStep old new s = s.setSwa { s.swa with
    holdTimer := if old = .closed ∧ new ≠ .closed then .cancelled
      else if (old ≠ .closed ∧ new = .closed) ∧ s.swa.closedHold ≠ 0 then s.timer s.swa.closedHold
      else s.swa.holdTimer } := by
  unfold holdStep
  by_cases left : old = .closed
  · by_cases entered : new = .closed <;> simp [left, entered, State.setSwa]
  · by_cases entered : new = .closed
    · simp only [left, entered, ne_eq, not_false_eq_true, not_true_eq_false, and_self, true_and, if_false]
      split <;> rfl
    · simp [left, entered, State.setSwa]

/-- Steps 2 to 4 of R143, and the advice that a CLOSED_HOLD of 0 gives at once (R146). -/
def noticed (old new : SleepClass) (s : State) : State :=
  let s' := activity .posture (holdStep old new (s.setSwa { s.swa with cls := new }))
  if old ≠ .closed ∧ new = .closed ∧ s'.swa.closedHold = 0 then closedHoldAct s' else s'

/-- The wake-class event of an acceptance: LID_OPENED when CLOSED is left (R143). -/
def noticedWake (old new : SleepClass) : Option WakeReason :=
  if old = .closed ∧ new ≠ .closed then some .lidOpened else none

theorem exec_acceptanceNotice (old new : SleepClass) (s : State) :
    exec (.acceptanceNotice old new) s
      = .next (noticed old new
        (occurred (noticedWake old new) none (s.took (.acceptanceNotice old new)))) := by
  change execAcceptanceNotice old new s = _
  unfold execAcceptanceNotice noticedWake
  split <;> rfl

theorem noticed_kept (old new : SleepClass) (s : State) : kept [.swa] s (noticed old new s) := by
  have posture : kept [.swa] s (activity .posture (holdStep old new (s.setSwa { s.swa with cls := new }))) := by
    rw [holdStep_eq]
    exact ((kept_setSwa s _).trans (kept_setSwa _ _)).trans (activity_kept _ _)
  unfold noticed
  dsimp only
  split
  · rw [closedHoldAct_eq]
    exact kept_ite (posture.trans (kept_swa _ _ _)) posture
  · exact posture

/-- Steps 2 to 4 of R143. -/
theorem postured_eq (old new : SleepClass) (s : State) :
    activity .posture (holdStep old new (s.setSwa { s.swa with cls := new })) = { s with
      swa := { s.swa with
        cls := new
        holdTimer := if old = .closed ∧ new ≠ .closed then .cancelled
          else if (old ≠ .closed ∧ new = .closed) ∧ s.swa.closedHold ≠ 0 then s.timer s.swa.closedHold
          else s.swa.holdTimer
        advice := if s.swa.platform = .awake then none else s.swa.advice
        idleTimer := if s.swa.idleTimeout = 0 then .cancelled else s.timer (s.swa.idleTimeout * 1000) }
      inflight := s.inflight ++ s.swa.withdrawal .posture s.stamp } := by
  rw [holdStep_eq, activity_eq]
  rfl

theorem noticed_eq (old new : SleepClass) (s : State) : noticed old new s = { s with
    swa := { s.swa with
      cls := new
      holdTimer := if old = .closed ∧ new ≠ .closed then .cancelled
        else if (old ≠ .closed ∧ new = .closed) ∧ s.swa.closedHold ≠ 0 then s.timer s.swa.closedHold
        else s.swa.holdTimer
      advice := if s.swa.platform = .awake then
          (if (old ≠ .closed ∧ new = .closed) ∧ s.swa.closedHold = 0 then some .lidClosed else none)
        else s.swa.advice
      idleTimer := if s.swa.idleTimeout = 0 then .cancelled else s.timer (s.swa.idleTimeout * 1000) }
    inflight := s.inflight ++ s.swa.withdrawal .posture s.stamp
      ++ if (old ≠ .closed ∧ new = .closed) ∧ s.swa.closedHold = 0 ∧ s.swa.platform = .awake then
        [.recordOffer (.sleep (.advice .lidClosed new) s.stamp)] else [] } := by
  rw [noticed, postured_eq]
  dsimp only
  by_cases now : (old ≠ .closed ∧ new = .closed) ∧ s.swa.closedHold = 0
  · obtain ⟨⟨other, entered⟩, zero⟩ := id now
    rw [if_pos ⟨other, entered, zero⟩, closedHoldAct_eq, if_pos now]
    by_cases awake : s.swa.platform = .awake
    · have unadvised : s.swa.platform = .awake
          ∧ (if s.swa.platform = .awake then none else s.swa.advice) ≠ some .lidClosed := ⟨awake, by simp [awake]⟩
      have advised : (old ≠ .closed ∧ new = .closed) ∧ s.swa.closedHold = 0 ∧ s.swa.platform = .awake :=
        ⟨now.1, zero, awake⟩
      refine (if_pos unadvised).trans ?_
      rw [if_pos awake, if_pos awake, if_pos advised]
      rfl
    · have asleep (advised : s.swa.platform = .awake
          ∧ (if s.swa.platform = .awake then none else s.swa.advice) ≠ some .lidClosed) : False := awake advised.1
      have not_advised : ¬ ((old ≠ .closed ∧ new = .closed) ∧ s.swa.closedHold = 0 ∧ s.swa.platform = .awake) :=
        fun advised => awake advised.2.2
      refine (if_neg asleep).trans ?_
      rw [if_neg awake, if_neg awake, if_neg not_advised, List.append_nil]
  · have not_now : ¬ (old ≠ .closed ∧ new = .closed ∧ s.swa.closedHold = 0) := fun ⟨other, entered, zero⟩ =>
      now ⟨⟨other, entered⟩, zero⟩
    have not_advised : ¬ ((old ≠ .closed ∧ new = .closed) ∧ s.swa.closedHold = 0 ∧ s.swa.platform = .awake) :=
      fun ⟨entering, zero, _⟩ => now ⟨entering, zero⟩
    rw [if_neg not_now, if_neg now, if_neg not_advised, List.append_nil]

theorem servedBy_noticedWake_iff (a : Swa) (old new : SleepClass) :
    a.servedBy (noticedWake old new) = true
      ↔ (old = .closed ∧ new ≠ .closed) ∧ a.platform = .asleep ∧ masked a.wakeMask .lidOpened = true := by
  unfold noticedWake
  split <;> simp [Swa.servedBy, Swa.serves_iff, *]

/-- The arbiter after an acceptance notice, whole. -/
theorem noticed_occurred_swa (old new : SleepClass) (s : State) :
    (noticed old new (occurred (noticedWake old new) none s)).swa = { s.swa with
      cls := new
      holdTimer := if old = .closed ∧ new ≠ .closed then .cancelled
        else if (old ≠ .closed ∧ new = .closed) ∧ s.swa.closedHold ≠ 0 then s.timer s.swa.closedHold
        else s.swa.holdTimer
      advice := if s.swa.platform = .awake then
          (if (old ≠ .closed ∧ new = .closed) ∧ s.swa.closedHold = 0 then some .lidClosed else none)
        else s.swa.advice
      idleTimer := if s.swa.idleTimeout = 0 then .cancelled else s.timer (s.swa.idleTimeout * 1000)
      lastWake := if old = .closed ∧ new ≠ .closed then some s.partTime else s.swa.lastWake
      wakeRaised := s.swa.servedBy (noticedWake old new) || s.swa.wakeRaised
      wakeSet := if s.swa.servedBy (noticedWake old new) then s.swa.wakeSet ||| 1 else s.swa.wakeSet } := by
  rw [noticed_eq]
  unfold noticedWake
  split <;> simp only [occurred, wakeClass_eq, Swa.servedBy] <;> rfl

theorem noticed_occurred_inflight (old new : SleepClass) (s : State) :
    (noticed old new (occurred (noticedWake old new) none s)).inflight = s.inflight
      ++ ((if s.swa.servedBy (noticedWake old new) = true ∧ s.swa.wakeRaised = false then
            [.recordOffer (.sleep (.wake .lidOpened (s.swa.wakeSet ||| 1)) s.stamp)] else [])
        ++ s.swa.withdrawal .posture s.stamp
        ++ if (old ≠ .closed ∧ new = .closed) ∧ s.swa.closedHold = 0 ∧ s.swa.platform = .awake then
          [.recordOffer (.sleep (.advice .lidClosed new) s.stamp)] else []) := by
  rw [noticed_eq]
  unfold noticedWake
  split <;> simp [occurred, wakeClass_eq, Swa.servedBy, Swa.wakeRecord, Swa.withdrawal, State.stamp] <;> rfl

/-! ### A class change without an acceptance (R144) -/

theorem classLeft_eq (old new : SleepClass) (s : State) : classLeft old new s = { s with
    swa := { s.swa with
      holdTimer := if old = .closed ∧ new ≠ .closed then .cancelled else s.swa.holdTimer
      advice := if new = .none ∨ ((old = .closed ∧ new ≠ .closed) ∧ s.swa.advice = some .lidClosed) then none
        else s.swa.advice }
    inflight := s.inflight ++
      if new = .none ∨ ((old = .closed ∧ new ≠ .closed) ∧ s.swa.advice = some .lidClosed) then
        (match s.swa.advice with
          | some reason => [.recordOffer (.sleep (.withdrawn reason .sleepClass) s.stamp)]
          | none => [])
      else [] } := by
  have left_eq : (if old = .closed ∧ new ≠ .closed then s.setSwa { s.swa with holdTimer := .cancelled } else s)
      = s.setSwa { s.swa with holdTimer := if old = .closed ∧ new ≠ .closed then .cancelled else s.swa.holdTimer } := by
    split <;> rfl
  have withdrawn_iff : (old = .closed ∧ new ≠ .closed ∧ s.swa.advice = some .lidClosed) ∨ new = .none
      ↔ new = .none ∨ ((old = .closed ∧ new ≠ .closed) ∧ s.swa.advice = some .lidClosed) := by
    tauto
  unfold classLeft
  rw [left_eq]
  by_cases withdrawn : new = .none ∨ ((old = .closed ∧ new ≠ .closed) ∧ s.swa.advice = some .lidClosed)
  · refine (if_pos (withdrawn_iff.mpr withdrawn)).trans ?_
    rw [withdraw_eq, if_pos withdrawn, if_pos withdrawn]
    rfl
  · refine (if_neg (withdrawn_iff.not.mpr withdrawn)).trans ?_
    rw [if_neg withdrawn, if_neg withdrawn, List.append_nil]
    rfl

/-- A cancelled idle timer is started, unless IDLE_TIMEOUT is 0 (R144, R152). -/
theorem restarted_eq (s : State) :
    (if s.swa.idleTimer = .cancelled then startIdle s else s) = s.setSwa { s.swa with
      idleTimer := if s.swa.idleTimer = .cancelled then
          (if s.swa.idleTimeout = 0 then .cancelled else s.timer (s.swa.idleTimeout * 1000))
        else s.swa.idleTimer } := by
  by_cases cancelled : s.swa.idleTimer = .cancelled
  · rw [if_pos cancelled, if_pos cancelled]
    rfl
  · rw [if_neg cancelled, if_neg cancelled]
    rfl

/-- Settles O45: an acceptance notice, and a class change without one. -/
theorem classNoticed : Obligations.ClassNoticed := by
  refine ⟨fun old new s => ?_, fun cls s => ?_⟩
  · intro opened closing idle
    let u := s.took (.acceptanceNotice old new)
    have swa := noticed_occurred_swa old new u
    have queue := noticed_occurred_inflight old new u
    have served_iff := servedBy_noticedWake_iff s.swa old new
    have frame := (kept_took _ s (.acceptanceNotice old new)).trans
      ((occurred_kept (noticedWake old new) none u).trans (noticed_kept old new _))
    have arm : exec (.acceptanceNotice old new) s = .next (noticed old new (occurred (noticedWake old new) none u)) :=
      exec_acceptanceNotice old new s
    generalize noticed old new (occurred (noticedWake old new) none u) = t at arm swa queue frame
    simp only [u, State.took_swa] at swa queue
    refine ⟨t, arm, frame, by rw [swa], by rw [swa], by rw [swa]; rfl, by rw [swa], fun leaves => ?_, fun leaves asleep mask => ?_,
      fun enters hold => ?_, fun stays waits => ?_, fun awake => ?_, fun asleep => ?_, fun stays => ?_, fun unserved => ?_, ?_⟩
    · rw [swa]
      exact ⟨if_pos leaves, if_pos leaves⟩
    · have served : s.swa.servedBy (noticedWake old new) = true := served_iff.mpr ⟨leaves, asleep, mask⟩
      rw [swa]
      simp [served]
    · have stays : ¬ opened := fun leaves => enters.1 leaves.1
      rw [swa]
      exact (if_neg stays).trans (if_pos ⟨enters, hold⟩)
    · rw [swa]
      exact (if_neg stays).trans (if_neg waits)
    · rw [swa]
      exact if_pos awake
    · rw [swa]
      exact if_neg (by simp [asleep])
    · rw [swa]
      exact if_neg stays
    · have unserved' : s.swa.servedBy (noticedWake old new) = false := Bool.eq_false_iff.mpr (served_iff.not.mpr unserved)
      rw [swa]
      simp [unserved']
    · have raises_iff : s.swa.servedBy (noticedWake old new) = true ∧ s.swa.wakeRaised = false
          ↔ opened ∧ s.swa.platform = .asleep ∧ masked s.swa.wakeMask .lidOpened = true ∧ s.swa.wakeRaised = false := by
        rw [served_iff]
        simp only [opened, and_assoc]
      simp only [raises_iff] at queue
      exact queue
  · intro c left withdrawn
    let u := classLeft s.swa.cls cls ((s.took c).setSwa { s.swa with cls := cls })
    let t := if u.swa.idleTimer = .cancelled then startIdle u else u
    have arm : exec c s = .next t := rfl
    have frame : kept [.swa] s t := (kept_took _ s c).trans ((kept_setSwa _ _).trans ((classLeft_kept _ _ _).trans
      (kept_ite (startIdle_kept _) (kept_refl _ _))))
    have restarted := restarted_eq u
    have shape := classLeft_eq s.swa.cls cls ((s.took c).setSwa { s.swa with cls := cls })
    change u = _ at shape
    have swa : t.swa = { s.swa with
        cls := cls
        holdTimer := if left then .cancelled else s.swa.holdTimer
        advice := if withdrawn then none else s.swa.advice
        idleTimer := if s.swa.idleTimer = .cancelled then
            (if s.swa.idleTimeout = 0 then .cancelled else .running (s.partTime + BitVec.ofNat 32 (s.swa.idleTimeout * 1000)))
          else s.swa.idleTimer } := by
      rw [show t = _ from restarted, shape]
      rfl
    have queue : t.inflight = s.inflight.erase c ++ if withdrawn then
        (match s.swa.advice with
          | some reason => [.recordOffer (.sleep (.withdrawn reason .sleepClass) (s.partTime.setWidth 16))]
          | none => [])
        else [] := by
      rw [show t = _ from restarted, shape]
      rfl
    refine ⟨t, arm, frame, by rw [swa], by rw [swa], by rw [swa], fun withdraws => ?_, fun keeps => ?_, fun e runs => ?_,
      fun cancelled timeout => ?_, fun cancelled timeout => ?_⟩
    · rw [if_pos withdraws] at queue
      exact ⟨by rw [swa]; exact if_pos withdraws, queue⟩
    · rw [if_neg keeps] at queue
      exact ⟨by rw [swa]; exact if_neg keeps, queue⟩
    · rw [swa]
      simp [runs]
    · rw [swa]
      simp [cancelled, timeout]
    · rw [swa]
      simp [cancelled, timeout]

/-- Settles O46: the two advices when due, and the two declarations. -/
theorem sleepAdvised : Obligations.SleepAdvised := by
  refine ⟨fun s => ?_, fun tag s => ?_⟩
  · intro ts idle closed
    refine ⟨fun due => ?_, fun due => ?_⟩
    · have arm : exec .idleTimerExpiry s = .next (if idle then advise .idle (s.setSwa { s.swa with idleTimer := .cancelled })
          else s.setSwa { s.swa with idleTimer := .cancelled }) := by
        refine (if_pos due).trans ?_
        by_cases now : idle
        · exact (if_pos now).trans (congrArg Host.Outcome.next (if_pos now).symm)
        · exact (if_neg now).trans (congrArg Host.Outcome.next (if_neg now).symm)
      refine ⟨_, arm, kept_ite (kept_swa s _ _) (kept_setSwa s _), fun now => ?_, fun now => ?_⟩
      · rw [if_pos now]
        exact ⟨rfl, rfl⟩
      · rw [if_neg now]
        exact ⟨rfl, rfl⟩
    · have arm : exec .closedHoldExpiry s = .next (closedHoldAct (s.setSwa { s.swa with holdTimer := .cancelled })) :=
        if_pos due
      rw [closedHoldAct_eq] at arm
      refine ⟨_, arm, kept_ite (kept_swa s _ _) (kept_setSwa s _), fun now => ?_, fun now => ?_⟩
      · rw [if_pos (by exact now)]
        exact ⟨rfl, rfl⟩
      · rw [if_neg (by exact now)]
        exact ⟨rfl, rfl⟩
  · intro asleep awake guarded set
    refine ⟨?_, answered rfl⟩
    let q := (s.took asleep).setSwa { s.swa with platform := .asleep, advice := none }
    have guard_iff : guardApplies q = true ↔ guarded := by
      change (match s.swa.lastWake with | none => false | some t => decide ((s.partTime - t).toNat ≤ s.swa.wakeGuard)) = true ↔ _
      cases wake : s.swa.lastWake <;> simp [guarded, wake]
    let t := if guardApplies q then wakeFor .recentActivity q else q
    have frame : kept [.swa] s (t.emits [.triggerDelivery .platformAsleep, .columnChange .asleep]) :=
      ((kept_took _ s asleep).trans ((kept_setSwa _ _).trans (kept_ite (wakeFor_kept _ _) (kept_refl _ _)))).trans
        (kept_emits _ _ _)
    refine ⟨_, _, rfl, answer_replied _ _ _ _ _ _ _, frame, fun now => ?_, fun now => ?_, fun now raised => ?_, fun quiet => ?_⟩
    · change t.swa = _
      rw [show t = _ from if_pos (guard_iff.mpr now), wakeFor_eq]
      rfl
    · change t.swa = _
      rw [show t = _ from if_neg (guard_iff.not.mpr now)]
      rfl
    · change t.inflight ++ _ = _
      rw [show t = _ from if_pos (guard_iff.mpr now), wakeFor_eq]
      simp [q, raised, set]
    · have silent : t.inflight = q.inflight := by
        by_cases now : guarded
        · rw [show t = _ from if_pos (guard_iff.mpr now), wakeFor_eq]
          simp [q, quiet.resolve_left (not_not.mpr now)]
        · rw [show t = _ from if_neg (guard_iff.not.mpr now)]
      change t.inflight ++ _ = _
      rw [silent]
      rfl

end Sys2Proof.Machine
end

-- PROOFS: admission, routing and thinning upstream (chapter 10; O47 to O49).
section

namespace Sys2Proof.Machine

/-! ### What CHANGE_ONLY compares (R159) -/

theorem isChanged_some_iff (d : Nat) (l r : Record) :
    isChanged d (some l) r = true ↔ d = 0 ∨ anyMoved d r.numbers l.numbers = true ∨ l.others ≠ r.others := by
  rw [ne_comm]
  simp [isChanged, or_assoc]

theorem anyMoved_cons_iff (d : Nat) (a b : Int) (as bs : List Int) :
    anyMoved d (a :: as) (b :: bs) = true ↔ d ≤ (a - b).natAbs ∨ anyMoved d as bs = true := by
  simp [anyMoved]

theorem anyMoved_nil (d : Nat) (as : List Int) : anyMoved d as [] = false := by
  cases as <;> rfl

/-- A deadband of 0 is met by any numeric field. -/
theorem zero_or_le_iff (d n : Nat) (p : Prop) : d = 0 ∨ d ≤ n ∨ p ↔ d ≤ n ∨ p :=
  ⟨fun h => h.elim (fun zero => .inl (zero ▸ Nat.zero_le n)) id, .inr⟩

theorem Quality.code_injective : Function.Injective Quality.code := by
  intro a b
  cases a <;> cases b <;> simp [Quality.code]

theorem rowKindCode_injective : Function.Injective fun k : Option StageKind => (k.map StageKind.code).getD 255 := by
  intro a b
  rcases a with _ | a <;> rcases b with _ | b
  · exact fun _ => rfl
  · cases b <;> simp [StageKind.code]
  · cases a <;> simp [StageKind.code]
  · cases a <;> cases b <;> simp [StageKind.code]

theorem stageSome_iff_code (st : ChargerState) : (decide (st.code = 2) || decide (st.code = 5)) = st.stage.isSome := by
  rcases st with _ | _ | k | _ | ⟨_ | k, d, b⟩ | ⟨_ | _, stage⟩ <;> rfl

/-- Of two states with the same code both have a stage or neither has. -/
theorem codedStage_eq_iff (a b : ChargerState) :
    a.code = b.code ∧ a.stage.getD 15 = b.stage.getD 15 ↔ a.code = b.code ∧ a.stage = b.stage := by
  refine and_congr_right fun code => ⟨fun stage => ?_, fun stage => by rw [stage]⟩
  have both : a.stage.isSome = b.stage.isSome := by
    rw [← stageSome_iff_code a, ← stageSome_iff_code b, code]
  cases a' : a.stage <;> cases b' : b.stage <;> simp_all

/-- Settles O48: each kind of record that CHANGE_ONLY compares, field by field. -/
theorem changesDetected : Obligations.ChangesDetected := by
  intro d
  refine ⟨fun _ => rfl, ?_, ?_, ?_, ?_, ?_, ?_, ?_, ?_⟩
  · intro a b ta tb
    rw [isChanged_some_iff]
    simp only [Record.numbers, Record.others, anyMoved_cons_iff, anyMoved_nil, Bool.false_eq_true, or_false, ne_eq, not_true_eq_false,
      zero_or_le_iff]
  · intro a b ta tb
    rw [isChanged_some_iff]
    simp only [Record.numbers, Record.others, anyMoved_cons_iff, anyMoved_nil, Bool.false_eq_true, or_false, ne_eq, not_true_eq_false,
      zero_or_le_iff]
  · intro a b qa qb ra rb ta tb
    rw [isChanged_some_iff]
    simp [Record.numbers, Record.others, anyMoved_cons_iff, anyMoved_nil, Quality.code_injective.eq_iff,
      zero_or_le_iff]
  · intro a qa qb ra rb ta tb
    rw [isChanged_some_iff]
    simp [Record.others]
  · intro b qa qb ra rb ta tb
    rw [isChanged_some_iff]
    simp [Record.others]
  · intro qa qb ra rb ta tb
    rw [isChanged_some_iff]
    simp [Record.numbers, Record.others, anyMoved_nil, Quality.code_injective.eq_iff]
  · intro a b ia ib fa fb ta tb
    rw [isChanged_some_iff]
    simp [Record.numbers, Record.others, anyMoved_cons_iff, anyMoved_nil, zero_or_le_iff, BitVec.toNat_inj]
    tauto
  · intro u v i j x y sa sb ka kb ta tb
    rw [isChanged_some_iff]
    simp only [Record.numbers, Record.others, anyMoved_cons_iff, anyMoved_nil, Bool.false_eq_true, or_false]
    have codes : (ka.map StageKind.code).getD 255 = (kb.map StageKind.code).getD 255 ↔ ka = kb := rowKindCode_injective.eq_iff
    simp only [List.cons.injEq, and_true, codes, ← and_assoc, codedStage_eq_iff, ne_eq, not_and_or, or_assoc]
    exact zero_or_le_iff _ _ _

/-! ### A transmitter that begins nothing (R165) -/

/-- No frame can begin: one is in transmission, HOLD is asserted, or a final RESPONSE is lost. -/
def Ufe.blocked (u : Ufe) : Prop := u.sending ≠ none ∨ u.hold = true ∨ u.finalLost ≠ none

theorem tryBegin_of_blocked {s : State} (blocked : s.ufe.blocked) : tryBegin s = s := by
  obtain sends | holds | loses := blocked
  · exact tryBegin_of_sending s (Option.isSome_iff_ne_none.mpr sends)
  · exact tryBegin_of_hold s holds
  · exact tryBegin_of_lost s loses

theorem enqueue_of_blocked {s : State} (f : Frame) (blocked : s.ufe.blocked) :
    enqueue f s = s.setUfe { s.ufe with queue := s.ufe.queue ++ [f] } :=
  tryBegin_of_blocked (s := s.setUfe { s.ufe with queue := s.ufe.queue ++ [f] }) blocked

/-! ### The oldest frame of a class -/

theorem oldest_eq {cls : FrameClass} {pre post : List Frame} {g : Frame} (of : g.cls = cls) (first : ∀ x ∈ pre, x.cls ≠ cls) :
    oldest cls (pre ++ g :: post) = some g := by
  have none : pre.find? (fun f => f.cls == cls) = none := List.find?_eq_none.mpr fun x hx => by simpa using first x hx
  rw [oldest, List.find?_append, none]
  simp [of]

theorem withoutOldest_eq {cls : FrameClass} {pre post : List Frame} {g : Frame} (of : g.cls = cls)
    (first : ∀ x ∈ pre, x.cls ≠ cls) : withoutOldest cls (pre ++ g :: post) = pre ++ post := by
  rw [withoutOldest, List.eraseP_append_right _ fun x hx => by simpa using first x hx]
  simp [of]

theorem oldest_eq_none {cls : FrameClass} {q : List Frame} (absent : ∀ x ∈ q, x.cls ≠ cls) : oldest cls q = none :=
  List.find?_eq_none.mpr fun x hx => by simpa using absent x hx

/-! ### Admission while no frame can begin (R163, R164) -/

/-- The state with the queue `queue`, in which the frame `g` has been lost. -/
def State.lost (s : State) (queue : List Frame) (g : Frame) : State := { s with
  ufe := { s.ufe with
    queue := queue, gaps := s.ufe.gaps.set g.stream.id (min 255 (s.ufe.gap g.stream + 1))
    finalLost := if g.stream = .response ∧ g.final = true then some (g.payload.getD 0 0) else s.ufe.finalLost }
  hlm := { s.hlm with
    lastLost := if g.stream = .response ∧ g.final = false then some (g.payload.getD 0 0) else s.hlm.lastLost } }

theorem lose_eq_lost (f : Frame) (s : State) : lose f s = s.lost s.ufe.queue f := lose_eq f s

/-- A frame that takes the place of an evicted one. -/
theorem enqueue_evict {s : State} {cls : FrameClass} {pre post : List Frame} {g : Frame} (f : Frame) (blocked : s.ufe.blocked)
    (queue : s.ufe.queue = pre ++ g :: post) (of : g.cls = cls) (first : ∀ x ∈ pre, x.cls ≠ cls) :
    enqueue f (evict cls g s) = s.lost (pre ++ post ++ [f]) g := by
  have evicted : evict cls g s = s.lost (pre ++ post) g := by
    rw [evict, lose_eq_lost, queue, withoutOldest_eq of first]
    rfl
  rw [evicted, enqueue_of_blocked]
  · rfl
  · obtain sends | holds | loses := blocked
    · exact .inl sends
    · exact .inr (.inl holds)
    · refine .inr (.inr ?_)
      change (if _ then _ else _) ≠ _
      split
      · exact Option.some_ne_none _
      · exact loses

/-! ### What an offered record becomes (R155 to R160) -/

/-- The single-record frame of an offer. -/
def Record.frame (r : Record) (cls : FrameClass) (extra : List Byte) (now : PartTime) : Frame :=
  ⟨r.stream, false, cls, r.payload ++ extra, now, r.final⟩

theorem takeOffer_of_bypasses {r : Record} (s : State) (bypasses : r.bypasses = true) :
    takeOffer r s = admitFrame (r.frame .high [] s.partTime) s :=
  if_pos bypasses

theorem id_lt_of_routed {r : Record} (routed : r.bypasses = false) : r.stream.id < 12 := by
  cases r <;> simp_all [Record.bypasses, Record.stream, Stream.id]

theorem batch_eq {st : Stream} (b f : Nat) (cls : FrameClass) (r : Record) {s : State} (routed : st.id < s.ufe.fwd.length) :
    let w := s.ufe.fwdAt st.id
    let after (w' : Forwarding) : State := s.setUfe { s.ufe with fwd := s.ufe.fwd.set st.id w' }
    batch st b f cls r s =
      if w.acc.length + 1 < b then
        after { w with
          acc := w.acc ++ [r]
          flush := if w.acc = [] then .running (s.partTime + BitVec.ofNat 32 f) else w.flush }
      else
        admitFrame ⟨st, true, cls, batchPayload (w.acc ++ [r]), s.partTime, false⟩
          (after { w with acc := [], flush := .cancelled }) := by
  intro w after
  unfold batch
  dsimp only
  by_cases room : w.acc.length + 1 < b
  · rw [if_neg (Nat.not_le.mpr room), if_pos room]
    rfl
  · rw [if_pos (Nat.not_lt.mp room), if_neg room, queueBatch, setFwd_fwdAt _ _ _ _ routed, if_pos rfl]
    simp only [setFwd, State.setUfe_ufe, State.setUfe_setUfe, List.set_set]
    rfl

theorem takeOffer_eq_routeBy {r : Record} (s : State) (routed : r.bypasses = false) :
    takeOffer r s = routeBy (s.ufe.columnOf r.stream) r s :=
  if_neg (by simp [routed])

theorem takeOffer_of_pass {r : Record} {s : State} (routed : r.bypasses = false)
    (action : (s.ufe.columnOf r.stream).action = .pass) :
    takeOffer r s = admitFrame (r.frame (s.ufe.columnOf r.stream).cls [] s.partTime) s := by
  rw [takeOffer_eq_routeBy s routed, routeBy, action]
  rfl

theorem takeOffer_of_drop {r : Record} {s : State} (routed : r.bypasses = false)
    (action : (s.ufe.columnOf r.stream).action = .drop) :
    takeOffer r s = countGap r.stream s := by
  rw [takeOffer_eq_routeBy s routed, routeBy, action]

theorem takeOffer_of_decimate {r : Record} {s : State} {n : Nat} (routed : r.bypasses = false)
    (action : (s.ufe.columnOf r.stream).action = .decimate n) :
    let w := s.ufe.fwdAt r.stream.id
    let v := setFwd r.stream.id { w with counter := if w.counter + 1 < n then w.counter + 1 else 0 } s
    takeOffer r s =
      if w.counter = 0 then admitFrame (r.frame (s.ufe.columnOf r.stream).cls [] s.partTime) v else v := by
  have counter (c : Nat) : (if n ≤ c + 1 then 0 else c + 1) = if c + 1 < n then c + 1 else 0 := by split_ifs <;> omega
  rw [takeOffer_eq_routeBy s routed, routeBy, action]
  simp only [decimate, counter]
  rfl

theorem takeOffer_of_changeOnly {r : Record} {s : State} {d m : Nat} (routed : r.bypasses = false)
    (action : (s.ufe.columnOf r.stream).action = .changeOnly d m) :
    let w := s.ufe.fwdAt r.stream.id
    takeOffer r s =
      if isChanged d w.last r = true ∨ m ≤ w.suppressed then
        admitFrame (r.frame (s.ufe.columnOf r.stream).cls [byteOf w.suppressed] s.partTime)
          (setFwd r.stream.id { w with last := some r, suppressed := 0 } s)
      else setFwd r.stream.id { w with suppressed := w.suppressed + 1 } s := by
  rw [takeOffer_eq_routeBy s routed, routeBy, action]
  rfl

theorem takeOffer_of_batch {r : Record} {s : State} {b f : Nat} (routed : r.bypasses = false)
    (action : (s.ufe.columnOf r.stream).action = .batch b f) (shaped : s.ufe.fwd.length = 12) :
    let w := s.ufe.fwdAt r.stream.id
    takeOffer r s =
      if w.acc.length + 1 < b then
        setFwd r.stream.id { w with
          acc := w.acc ++ [r]
          flush := if w.acc = [] then .running (s.partTime + BitVec.ofNat 32 f) else w.flush } s
      else
        admitFrame ⟨r.stream, true, (s.ufe.columnOf r.stream).cls, batchPayload (w.acc ++ [r]), s.partTime, false⟩
          (setFwd r.stream.id { w with acc := [], flush := .cancelled } s) := by
  have inRange : r.stream.id < s.ufe.fwd.length := shaped ▸ id_lt_of_routed routed
  rw [takeOffer_eq_routeBy s routed, routeBy, action]
  exact batch_eq b f _ r inRange

/-! ### Rerouting: what thinning may change before a frame is admitted -/

/-- The upstream engine changed in nothing that an admission depends on. -/
def State.rerouted (s v : State) : Prop :=
  ∃ w : Ufe, v = s.setUfe w ∧ w.queue = s.ufe.queue ∧ w.sending = s.ufe.sending ∧ w.hold = s.ufe.hold
    ∧ w.finalLost = s.ufe.finalLost

theorem rerouted_refl (s : State) : s.rerouted s := ⟨s.ufe, rfl, rfl, rfl, rfl, rfl⟩

theorem rerouted_setFwd (i : Nat) (w : Forwarding) (s : State) : s.rerouted (setFwd i w s) := ⟨_, rfl, rfl, rfl, rfl, rfl⟩

theorem State.rerouted.setFwd {s v : State} (same : s.rerouted v) (i : Nat) (w : Forwarding) :
    s.rerouted (setFwd i w v) := by
  obtain ⟨u, rfl, queue, sending, hold, lost⟩ := same
  exact ⟨{ u with fwd := u.fwd.set i w }, rfl, queue, sending, hold, lost⟩

/-- An offered record changes the thinning state, and may then be admitted as a frame. -/
theorem takeOffer_admits (r : Record) (s : State) :
    ∃ v, s.rerouted v ∧ (takeOffer r s = v
      ∨ ∃ f, takeOffer r s = admitFrame f v ∧ (f.final = true → f.cls = .high ∧ r.final = true)) := by
  cases routed : r.bypasses with
  | true => exact ⟨s, rerouted_refl s, .inr ⟨_, takeOffer_of_bypasses s routed, fun final => ⟨rfl, final⟩⟩⟩
  | false =>
    have takes : takeOffer r s = routeBy (s.ufe.columnOf r.stream) r s := if_neg (by simp [routed])
    have plain (extra : List Byte) (cls : FrameClass) (v : State) :
        (frameOf r extra cls v).final = true → (frameOf r extra cls v).cls = .high ∧ r.final = true :=
      fun final => ⟨frameOf_final routed extra cls v final, final⟩
    rw [takes, routeBy]
    cases (s.ufe.columnOf r.stream).action with
    | pass => exact ⟨s, rerouted_refl s, .inr ⟨_, rfl, plain _ _ _⟩⟩
    | drop => exact ⟨countGap r.stream s, ⟨_, rfl, rfl, rfl, rfl, rfl⟩, .inl rfl⟩
    | decimate n =>
      simp only [decimate]
      split
      · exact ⟨_, rerouted_setFwd _ _ s, .inr ⟨_, rfl, plain _ _ _⟩⟩
      · exact ⟨_, rerouted_setFwd _ _ s, .inl rfl⟩
    | changeOnly d m =>
      simp only [changeOnly]
      split
      · exact ⟨_, rerouted_setFwd _ _ s, .inr ⟨_, rfl, plain _ _ _⟩⟩
      · exact ⟨_, rerouted_setFwd _ _ s, .inl rfl⟩
    | batch b f =>
      simp only [batch]
      split
      · exact ⟨_, (rerouted_setFwd _ _ s).setFwd _ _, .inr ⟨_, rfl, fun final => by cases final⟩⟩
      · exact ⟨_, rerouted_setFwd _ _ s, .inl rfl⟩

/-- With room for any class, a frame joins the queue or begins at once, and no loss is settled. -/
theorem settleLoss_admitFrame {s v : State} (f : Frame) (same : s.rerouted v) (settled : transmitterSettled s)
    (room : s.ufe.queue.length < 48) (lower : s.ufe.lowerCount < 40) :
    settleLoss (admitFrame f v) = v.setUfe (v.ufe.joined f) := by
  obtain ⟨u, rfl, queue, sending, hold, lost⟩ := same
  obtain ⟨waits, idle⟩ := settled
  have settled' : transmitterSettled (s.setUfe u) :=
    ⟨fun loses => sending ▸ waits (lost ▸ loses), fun rests clear => queue.trans (idle (sending ▸ rests) (hold ▸ clear))⟩
  have lower' : u.lowerCount < 40 := by simpa [Ufe.lowerCount, queue] using lower
  rw [admitFrame_of_room f _ (by simpa [queue] using room) lower', enqueue_joined f _ settled', settleLoss_of_waits]
  intro loses
  rw [State.setUfe_ufe, State.setUfe_ufe, Ufe.joined] at *
  by_cases begins : u.sending = none ∧ u.hold = false
  · rw [if_pos begins]
    exact Option.some_ne_none _
  · rw [if_neg begins] at loses ⊢
    exact sending ▸ waits (lost ▸ loses)

theorem settleLoss_rerouted {s v : State} (same : s.rerouted v) (waits : s.ufe.finalLost ≠ none → s.ufe.sending ≠ none) :
    settleLoss v = v := by
  obtain ⟨u, rfl, -, sending, -, lost⟩ := same
  exact settleLoss_of_waits _ fun loses => sending ▸ waits (lost ▸ loses)

/-- Settles O47: with room, each action of the column in force. -/
theorem offersRouted : Obligations.OffersRouted := by
  refine ⟨fun r => by cases r <;> simp [Record.bypasses, Record.stream], fun st e u active => ?_,
    fun r s settled room lower => ?_⟩
  · rw [Ufe.columnOf, entryAt, List.getD_eq_getElem?_getD, active]
    cases u.column <;> rfl
  intro c col w frame after
  let u := s.took c
  have admits {v : State} (f : Frame) (same : u.rerouted v) : settleLoss (admitFrame f v) = v.setUfe (v.ufe.joined f) :=
    settleLoss_admitFrame f same settled room lower
  have rests {v : State} (same : u.rerouted v) : settleLoss v = v := settleLoss_rerouted same settled.1
  have upstream : ∃ w, settleLoss (takeOffer r u) = u.setUfe w := by
    obtain ⟨v, same, takes | ⟨f, takes, -⟩⟩ := takeOffer_admits r u
    · rw [takes, rests same]
      obtain ⟨w, rfl, -⟩ := same
      exact ⟨w, rfl⟩
    · rw [takes, admits f same]
      obtain ⟨w, rfl, -⟩ := same
      exact ⟨_, rfl⟩
  refine ⟨settleLoss (takeOffer r u), rfl, ?_, ?_, fun bypasses => ?_, fun routed => ?_⟩
  · obtain ⟨w, shape⟩ := upstream
    rw [shape]
    exact (kept_took _ s c).trans (kept_setUfe _ w)
  · obtain ⟨w, shape⟩ := upstream
    rw [shape, issued, List.append_nil]
    rfl
  · rw [takeOffer_of_bypasses _ bypasses, admits _ (rerouted_refl u)]
    rfl
  · cases action : (s.ufe.columnOf r.stream).action with
    | pass =>
      dsimp only
      rw [takeOffer_of_pass (s := u) routed action, admits _ (rerouted_refl u)]
      rfl
    | drop =>
      dsimp only
      rw [takeOffer_of_drop (s := u) routed action, rests (v := countGap r.stream u) ⟨_, rfl, rfl, rfl, rfl, rfl⟩]
      rfl
    | decimate n =>
      have takes := takeOffer_of_decimate (s := u) routed action
      by_cases zero : w.counter = 0
      · dsimp only
        rw [takes.trans (if_pos zero), if_pos zero, admits _ (rerouted_setFwd _ _ u)]
        rfl
      · dsimp only
        rw [takes.trans (if_neg zero), if_neg zero, rests (rerouted_setFwd _ _ u)]
        rfl
    | changeOnly d m =>
      have takes := takeOffer_of_changeOnly (s := u) routed action
      by_cases forwards : isChanged d w.last r = true ∨ m ≤ w.suppressed
      · refine (if_pos forwards).mpr ?_
        rw [takes.trans (if_pos forwards), admits _ (rerouted_setFwd _ _ u)]
        rfl
      · refine (if_neg forwards).mpr ?_
        rw [takes.trans (if_neg forwards), rests (rerouted_setFwd _ _ u)]
        rfl
    | batch b f =>
      intro shaped
      have takes := takeOffer_of_batch (s := u) routed action shaped
      by_cases waits : w.acc.length + 1 < b
      · refine (if_pos waits).mpr ?_
        rw [takes.trans (if_pos waits), rests (rerouted_setFwd _ _ u)]
        rfl
      · refine (if_neg waits).mpr ?_
        rw [takes.trans (if_neg waits), admits _ (rerouted_setFwd _ _ u)]
        rfl

/-! ### Admission that leaves no loss to settle (R165) -/

theorem oldest_isNone {c : FrameClass} {q : List Frame} (h : oldest c q = none) : ∀ x ∈ q, x.cls ≠ c := fun x hx => by
  simpa using List.find?_eq_none.mp h x hx

/-- A frame that is dropped met a queue with no frame of a lower class: a HIGH one met 48 HIGH frames. -/
theorem admitFrame_loses {f : Frame} {s : State} (high : f.cls = .high) (full : 48 ≤ s.ufe.queue.length)
    (all : ∀ x ∈ s.ufe.queue, x.cls = .high) : admitFrame f s = lose f s := by
  have low : oldest .low s.ufe.queue = none := oldest_eq_none fun x hx => by simp [all x hx]
  have normal : oldest .normal s.ufe.queue = none := oldest_eq_none fun x hx => by simp [all x hx]
  unfold admitFrame
  rw [high]
  simp only [if_neg (Nat.not_lt.mpr full), low, normal]

/-- A final RESPONSE is lost only to 48 HIGH frames. -/
theorem admitFrame_of_high {f : Frame} {s : State} (high : f.cls = .high)
    (room : ¬ (48 ≤ s.ufe.queue.length ∧ ∀ x ∈ s.ufe.queue, x.cls = .high)) :
    admitFrame f s = enqueue f s
    ∨ ∃ c g, admitFrame f s = enqueue f (evict c g s) ∧ oldest c s.ufe.queue = some g ∧ c ≠ .high := by
  unfold admitFrame
  rw [high]
  dsimp only
  split
  · exact .inl rfl
  · next full =>
    split
    · next g low => exact .inr ⟨.low, g, rfl, low, by decide⟩
    · next g _ normal => exact .inr ⟨.normal, g, rfl, normal, by decide⟩
    · next low normal =>
      refine absurd ⟨Nat.not_lt.mp full, fun x hx => ?_⟩ room
      have not_low := oldest_isNone low x hx
      have not_normal := oldest_isNone normal x hx
      cases cls : x.cls <;> simp_all

theorem enqueue_finalLost (f : Frame) (s : State) : (enqueue f s).ufe.finalLost = s.ufe.finalLost :=
  (tryBegin_lengths _).2.1

theorem enqueue_sending (f : Frame) {s : State} (sends : s.ufe.sending ≠ none) : (enqueue f s).ufe.sending ≠ none :=
  tryBegin_sending (s := s.setUfe { s.ufe with queue := s.ufe.queue ++ [f] }) sends

theorem lose_sending (f : Frame) (s : State) : (lose f s).ufe.sending = s.ufe.sending := by
  rw [lose_eq]

theorem lose_finalLost {f : Frame} (s : State) (plain : f.final = false) : (lose f s).ufe.finalLost = s.ufe.finalLost := by
  rw [lose_eq]
  simp [plain]

/-- A frame that is evicted is not final: those are queued at class HIGH. -/
theorem evicted_plain {s : State} {c : FrameClass} {g : Frame} (high : finalsHigh s) (found : oldest c s.ufe.queue = some g)
    (lower : c ≠ .high) : g.final = false := by
  obtain ⟨queued, cls⟩ := oldest_cls found
  by_contra final
  exact lower (cls.symm.trans (high g queued (Bool.not_eq_false _ ▸ final)))

/-- An admission leaves a frame in transmission. -/
theorem admitFrame_sending (f : Frame) {s : State} (sends : s.ufe.sending ≠ none) : (admitFrame f s).ufe.sending ≠ none := by
  obtain ⟨joins, -⟩ | ⟨c, g, joins, -⟩ | lost := admitFrame_cases f s
  · rw [joins]
    exact enqueue_sending f sends
  · rw [joins]
    refine enqueue_sending f ?_
    rw [evict, lose_sending]
    exact sends
  · rw [lost, lose_sending]
    exact sends

/-- An admission loses no final RESPONSE but one that meets 48 HIGH frames. -/
theorem admitFrame_finalLost {f : Frame} {s : State} (kept : s.ufe.finalLost = none) (high : finalsHigh s)
    (final : f.final = true → f.cls = .high)
    (room : ¬ (f.final = true ∧ 48 ≤ s.ufe.queue.length ∧ ∀ x ∈ s.ufe.queue, x.cls = .high)) :
    (admitFrame f s).ufe.finalLost = none := by
  have evicts {c : FrameClass} {g : Frame} (found : oldest c s.ufe.queue = some g) (lower : c ≠ .high) :
      (enqueue f (evict c g s)).ufe.finalLost = none := by
    rw [enqueue_finalLost, evict, lose_finalLost _ (evicted_plain high found lower)]
    exact kept
  cases last : f.final with
  | true =>
    obtain joins | ⟨c, g, joins, found, lower⟩ := admitFrame_of_high (final last) fun full => room ⟨last, full⟩
    · rw [joins, enqueue_finalLost]
      exact kept
    · rw [joins]
      exact evicts found lower
  | false =>
    obtain ⟨joins, -⟩ | ⟨c, g, joins, found, lower, -⟩ | lost := admitFrame_cases f s
    · rw [joins, enqueue_finalLost]
      exact kept
    · rw [joins]
      exact evicts found lower
    · rw [lost, lose_finalLost _ last]
      exact kept

theorem lossWaits.loss_waits {s : State} (waits : lossWaits s) : s.ufe.finalLost ≠ none → s.ufe.sending ≠ none :=
  waits.elim (fun sends _ => sends) fun ⟨kept, _⟩ loses => absurd kept loses

/-- An admission that carries out no reset. -/
theorem admitFrame_lossWaits {f : Frame} {s : State} (waits : lossWaits s) (final : f.final = true → f.cls = .high)
    (room : ¬ (f.final = true ∧ 48 ≤ s.ufe.queue.length ∧ ∀ x ∈ s.ufe.queue, x.cls = .high)) :
    lossWaits (admitFrame f s) :=
  waits.imp (admitFrame_sending f) fun ⟨kept, high⟩ =>
    ⟨admitFrame_finalLost kept high final room, Ufe.finalsHigh_invariant.admitFrame final high⟩

/-! ### Admission by class (R163) -/

theorem admitFrame_joins {f : Frame} {s : State}
    (room : f.cls = .high ∧ s.ufe.queue.length < 48
      ∨ f.cls ≠ .high ∧ s.ufe.queue.length < 48 ∧ s.ufe.lowerCount < 40) : admitFrame f s = enqueue f s := by
  unfold admitFrame
  obtain ⟨high, short⟩ | ⟨lower, roomy⟩ := room
  · rw [high]
    exact if_pos short
  · cases cls : f.cls with
    | high => exact absurd cls lower
    | normal | low => exact if_pos roomy

theorem admitFrame_evicts_low {f g : Frame} {s : State} (low : oldest .low s.ufe.queue = some g)
    (full : f.cls = .high ∧ 48 ≤ s.ufe.queue.length
      ∨ f.cls = .normal ∧ ¬ (s.ufe.queue.length < 48 ∧ s.ufe.lowerCount < 40)) :
    admitFrame f s = enqueue f (evict .low g s) := by
  unfold admitFrame
  obtain ⟨cls, long⟩ | ⟨cls, tight⟩ := full
  · simp only [cls, if_neg (Nat.not_lt.mpr long), low]
  · simp only [cls, if_neg tight, low]

theorem admitFrame_evicts_normal {f g : Frame} {s : State} (noLow : oldest .low s.ufe.queue = none)
    (normal : oldest .normal s.ufe.queue = some g) (high : f.cls = .high) (full : 48 ≤ s.ufe.queue.length) :
    admitFrame f s = enqueue f (evict .normal g s) := by
  unfold admitFrame
  simp only [high, if_neg (Nat.not_lt.mpr full), noLow, normal]

theorem admitFrame_drops {f : Frame} {s : State}
    (drops : f.cls = .high ∧ 48 ≤ s.ufe.queue.length ∧ (∀ x ∈ s.ufe.queue, x.cls = .high)
      ∨ f.cls = .normal ∧ ¬ (s.ufe.queue.length < 48 ∧ s.ufe.lowerCount < 40) ∧ (∀ x ∈ s.ufe.queue, x.cls ≠ .low)
      ∨ f.cls = .low ∧ ¬ (s.ufe.queue.length < 48 ∧ s.ufe.lowerCount < 40)) : admitFrame f s = lose f s := by
  obtain ⟨high, full, all⟩ | ⟨normal, tight, noLow⟩ | ⟨low, tight⟩ := drops
  · exact admitFrame_loses high full all
  · unfold admitFrame
    simp only [normal, if_neg tight, oldest_eq_none noLow]
  · unfold admitFrame
    simp only [low, if_neg tight]

/-- An offer to a queue behind which losses wait settles none. -/
theorem exec_recordOffer_of_waits {r : Record} {s : State} (waits : lossWaits s)
    (room : ¬ (r.final = true ∧ 48 ≤ s.ufe.queue.length ∧ ∀ x ∈ s.ufe.queue, x.cls = .high)) :
    exec (.recordOffer r) s = .next (takeOffer r (s.took (.recordOffer r))) := by
  refine congrArg Host.Outcome.next ?_
  obtain ⟨v, same, takes | ⟨f, takes, final⟩⟩ := takeOffer_admits r (s.took (.recordOffer r))
  · rw [takes]
    exact settleLoss_rerouted same waits.loss_waits
  · rw [takes]
    obtain ⟨w, rfl, queue, sending, -, lost⟩ := same
    have waits' : lossWaits ((s.took (.recordOffer r)).setUfe w) := by
      simpa only [lossWaits, finalsHigh, State.setUfe_ufe, queue, sending, lost, State.took_ufe] using waits
    refine settleLoss_of_waits _ (admitFrame_lossWaits waits' (fun last => (final last).1) fun ⟨last, full⟩ =>
      room ⟨(final last).2, ?_⟩).loss_waits
    simpa only [State.setUfe_ufe, queue, State.took_ufe] using full

/-- Settles O49: admission by class on every queue, and an offer's admission. -/
theorem framesAdmitted : Obligations.FramesAdmitted := by
  refine ⟨fun f s => ?_, fun r s waits room => ?_⟩
  · intro q t roomy oldestOf leaves
    refine ⟨fun idle clear kept empty => ?_, fun blocked => ⟨fun joins => ?_, fun pre g post found evicts => ?_,
      fun pre g post found noLow high full => ?_, fun drops => ?_⟩⟩
    · have settled : transmitterSettled s := ⟨fun loses => absurd kept loses, fun _ _ => empty⟩
      change admitFrame f s = _
      have length : s.ufe.queue.length < 48 := by rw [show s.ufe.queue = [] from empty]; decide
      have lower : s.ufe.lowerCount < 40 := by rw [Ufe.lowerCount, show s.ufe.queue = [] from empty]; decide
      rw [admitFrame_of_room f s length lower, enqueue_joined f s settled]
    · exact (admitFrame_joins joins).trans (enqueue_of_blocked f blocked)
    · obtain ⟨queue, cls, first⟩ := found
      have low : oldest .low s.ufe.queue = some g := (congrArg _ queue).trans (oldest_eq cls first)
      exact (admitFrame_evicts_low low evicts).trans (enqueue_evict f blocked queue cls first)
    · obtain ⟨queue, cls, first⟩ := found
      have normal : oldest .normal s.ufe.queue = some g := (congrArg _ queue).trans (oldest_eq cls first)
      exact (admitFrame_evicts_normal (oldest_eq_none noLow) normal high full).trans (enqueue_evict f blocked queue cls first)
    · exact (admitFrame_drops drops).trans (lose_eq_lost f s)
  · have arm := exec_recordOffer_of_waits waits room
    intro c u col w frame after
    refine ⟨fun bypasses => arm.trans (congrArg _ (takeOffer_of_bypasses _ bypasses)), fun routed => ?_⟩
    cases action : (s.ufe.columnOf r.stream).action with
    | pass => exact arm.trans (congrArg _ (takeOffer_of_pass (s := u) routed action))
    | drop => exact arm.trans (congrArg _ (takeOffer_of_drop (s := u) routed action))
    | decimate n => exact arm.trans (congrArg _ (takeOffer_of_decimate (s := u) routed action))
    | changeOnly d m =>
      have takes := takeOffer_of_changeOnly (s := u) routed action
      by_cases forwards : isChanged d w.last r = true ∨ m ≤ w.suppressed
      · exact (if_pos forwards).mpr (arm.trans (congrArg _ (takes.trans (if_pos forwards))))
      · exact (if_neg forwards).mpr (arm.trans (congrArg _ (takes.trans (if_neg forwards))))
    | batch b f =>
      intro shaped
      have takes := takeOffer_of_batch (s := u) routed action shaped
      by_cases waiting : w.acc.length + 1 < b
      · exact (if_pos waiting).mpr (arm.trans (congrArg _ (takes.trans (if_pos waiting))))
      · exact (if_neg waiting).mpr (arm.trans (congrArg _ (takes.trans (if_neg waiting))))

end Sys2Proof.Machine
end

-- PROOFS: transmission, losses, flushes and column changes upstream (chapter 10; O50 to O52).
section

namespace Sys2Proof.Machine

/-! ### The next frame (R165) -/

theorem nextClass_eq {q : List Frame} {g : Frame} (queued : g ∈ q) (highest : ∀ x ∈ q, g.cls.code ≤ x.cls.code) :
    nextClass q = g.cls := by
  have found_iff (c : FrameClass) : (oldest c q).isSome = true ↔ ∃ x ∈ q, x.cls = c := by
    simp [oldest, List.find?_isSome]
  have absent {c : FrameClass} (before : c.code < g.cls.code) : ¬ (oldest c q).isSome = true := by
    rw [found_iff]
    rintro ⟨x, hx, rfl⟩
    exact absurd (highest x hx) (Nat.not_le.mpr before)
  have present : (oldest g.cls q).isSome = true := (found_iff _).mpr ⟨g, queued, rfl⟩
  unfold nextClass
  cases cls : g.cls with
  | high =>
    rw [cls] at present
    exact if_pos present
  | normal =>
    rw [cls] at present absent
    rw [if_neg (absent (by decide)), if_pos present]
  | low =>
    rw [cls] at absent
    rw [if_neg (absent (by decide)), if_neg (absent (by decide))]

/-- The oldest frame of the highest class queued begins. -/
theorem tryBegin_begins {s : State} {pre post : List Frame} {g : Frame} (idle : s.ufe.sending = none)
    (clear : s.ufe.hold = false) (kept : s.ufe.finalLost = none) (queue : s.ufe.queue = pre ++ g :: post)
    (first : ∀ x ∈ pre, x.cls ≠ g.cls) (highest : ∀ x ∈ s.ufe.queue, g.cls.code ≤ x.cls.code) :
    tryBegin s = s.setUfe { s.ufe with
      queue := pre ++ post, sending := some ⟨g, s.ufe.gap g.stream⟩, gaps := s.ufe.gaps.set g.stream.id 0 } := by
  have next : nextClass s.ufe.queue = g.cls := nextClass_eq (by simp [queue]) highest
  have found : oldest g.cls s.ufe.queue = some g := (congrArg _ queue).trans (oldest_eq rfl first)
  have left : withoutOldest g.cls s.ufe.queue = pre ++ post := (congrArg _ queue).trans (withoutOldest_eq rfl first)
  rw [tryBegin, if_pos (by simp [idle, clear, kept]), next, found]
  simp only [beginFrame, left]
  rfl

theorem Ufe.gap_set {u : Ufe} (shaped : u.gaps.length = 15) (a b : Stream) (n : Nat) :
    ({ u with gaps := u.gaps.set a.id n } : Ufe).gap b = if b = a then n else u.gap b := by
  have inRange : a.id < u.gaps.length := by rw [shaped]; cases a <;> decide
  by_cases same : b = a
  · subst same
    simp [Ufe.gap, inRange]
  · have other : a.id ≠ b.id := by
      revert same
      cases a <;> cases b <;> simp [Stream.id]
    simp [Ufe.gap, same, List.getElem?_set_ne other]

/-- Settles O50: the next frame at a completion and at a release of HOLD, and what begins none. -/
theorem framesSent : Obligations.FramesSent := by
  refine ⟨fun c s noLoss shaped event => ?_, fun level s busy => ?_, fun s sends loses => ?_, fun s idle => ?_⟩
  · intro held
    let v := s.setUfe { s.ufe with sending := none, hold := held }
    have arm : exec c s = .next (tryBegin v) := by
      obtain ⟨rfl, x, sends, plain⟩ | ⟨level, rfl, idle⟩ := event
      · change execFrameCompletion s = _
        simp only [execFrameCompletion, sends, plain]
        exact congrArg (fun t => Host.Outcome.next (tryBegin t))
          (settleLoss_of_none (s.setUfe { s.ufe with sending := none }) noLoss)
      · have same : v = s.setUfe { s.ufe with hold := level } := by
          change s.setUfe { s.ufe with sending := none, hold := level } = _
          rw [← idle]
        rw [same]
        rfl
    have frame : kept [.ufe] s (tryBegin v) := by
      rw [tryBegin_frame]
      exact (kept_setUfe s _).trans (kept_setUfe v _)
    have queued : (tryBegin v).inflight = s.inflight := by
      rw [tryBegin_frame]
      rfl
    obtain ⟨-, -, column, fwd, -⟩ := tryBegin_keeps v
    refine ⟨tryBegin v, arm, frame, queued, (tryBegin_lengths v).2.2, fwd, column, fun rests => ?_,
      fun pre g post clear queue first highest => ?_⟩
    · have same : tryBegin v = v :=
        rests.elim (fun holds => tryBegin_of_hold v holds) fun empty => tryBegin_of_empty (s := v) empty
      rw [same]
      exact ⟨rfl, rfl, rfl⟩
    · rw [tryBegin_begins (s := v) rfl clear noLoss queue first highest]
      exact ⟨rfl, rfl, (Ufe.gap_set (u := s.ufe) shaped g.stream g.stream 0).trans (if_pos rfl), fun st other =>
        (Ufe.gap_set (u := s.ufe) shaped g.stream st 0).trans (if_neg other)⟩
  · exact congrArg Host.Outcome.next (tryBegin_of_blocked (s := s.setUfe { s.ufe with hold := level })
      (busy.imp id .inr))
  · obtain ⟨x, sending⟩ := Option.ne_none_iff_exists'.mp sends
    exact execFrameCompletion_of_last sending (.inr loses)
  · change execFrameCompletion s = _
    simp only [execFrameCompletion, idle]

/-! ### Losses of RESPONSEs (R164, R165) -/

/-- Settles O51: a RESPONSE lost to 48 HIGH frames, final or not, with the transmitter idle or busy. -/
theorem responsesLost : Obligations.ResponsesLost := by
  intro tag code row status data final s waits full high c u counted
  let f := (Record.response tag code status row data final).frame .high [] s.partTime
  have loses : takeOffer (.response tag code status row data final) u = u.lost s.ufe.queue f :=
    (takeOffer_of_bypasses u rfl).trans
      ((admitFrame_loses (f := f) (s := u) rfl full high).trans (lose_eq_lost f u))
  have arm : exec c s = .next (settleLoss (u.lost s.ufe.queue f)) := congrArg (fun t => Host.Outcome.next (settleLoss t)) loses
  rw [arm]
  refine ⟨?_, ?_, ?_⟩
  · rintro rfl
    exact congrArg _ (settleLoss_of_waits (u.lost s.ufe.queue f) fun lost => waits.resolve_left lost)
  · rintro rfl sends
    exact congrArg _ (settleLoss_of_waits (u.lost s.ufe.queue f) fun _ => sends)
  · rintro rfl idle
    exact congrArg _ (settleLoss_of_lost (s := u.lost s.ufe.queue f) idle (Option.some_ne_none _))

end Sys2Proof.Machine
end

-- PROOFS: flush timers, column changes and route commits (chapter 10; O52).
section

namespace Sys2Proof.Machine

/-! ### The streams with a route entry -/

theorem routedStreams_getElem? : ∀ st ∈ routedStreams, routedStreams[st.id]? = some st := by decide

theorem id_lt_of_mem : ∀ st ∈ routedStreams, st.id < 12 := by decide

theorem Stream.id_injective : Function.Injective Stream.id := by
  intro a b
  cases a <;> cases b <;> simp [Stream.id]

/-- A forwarding state for every routed stream reads back. -/
theorem fwdAt_map (u : Ufe) (g : Stream → Forwarding) {st : Stream} (routed : st ∈ routedStreams) :
    ({ u with fwd := routedStreams.map g } : Ufe).fwdAt st.id = g st := by
  simp [Ufe.fwdAt, routedStreams_getElem? st routed]

/-- The forwarding states are those of the routed streams, in stream id order. -/
theorem fwd_eq_map {u : Ufe} (shaped : u.fwd.length = 12) : u.fwd = routedStreams.map fun st => u.fwdAt st.id := by
  refine List.ext_getElem (by rw [shaped]; rfl) fun i hi _ => ?_
  have inRange : i < 12 := shaped ▸ hi
  have position : ∀ i : Fin 12, (routedStreams[i.val]'(by exact i.isLt)).id = i.val := by decide
  rw [List.getElem_map, show (routedStreams[i]'(by exact inRange)).id = i from position ⟨i, inRange⟩]
  simp [Ufe.fwdAt, hi]

/-! ### Thinning reset (R161, R162) -/

theorem resetThinning_eq (s : State) (st : Stream) (inRange : st.id < s.ufe.fwd.length) (j : Nat) :
    (resetThinning s st).ufe.fwdAt j = if st.id = j then (s.ufe.fwdAt j).thinReset else s.ufe.fwdAt j := by
  rw [resetThinning, setFwd_fwdAt _ _ _ _ inRange]
  split
  · next same => rw [same]
  · rfl

/-- What a pass over several streams resets. -/
theorem foldl_resetThinning (sts : List Stream) {s : State} (shaped : s.ufe.fwd.length = 12)
    (inRange : ∀ st ∈ sts, st.id < 12) :
    ∃ fwd, sts.foldl resetThinning s = s.setUfe { s.ufe with fwd := fwd } ∧ fwd.length = 12
      ∧ ∀ j, ({ s.ufe with fwd := fwd } : Ufe).fwdAt j =
        if j ∈ sts.map Stream.id then (s.ufe.fwdAt j).thinReset else s.ufe.fwdAt j := by
  induction sts generalizing s with
  | nil => exact ⟨s.ufe.fwd, rfl, shaped, fun j => by simp⟩
  | cons st sts ih =>
    have first : st.id < s.ufe.fwd.length := shaped ▸ inRange st (by simp)
    obtain ⟨fwd, folds, length, reads⟩ := ih (s := resetThinning s st) (by simpa [resetThinning, setFwd] using shaped)
      fun x hx => inRange x (by simp [hx])
    refine ⟨fwd, folds, length, fun j => (reads j).trans ?_⟩
    rw [resetThinning_eq s st first]
    by_cases same : st.id = j
    · subst same
      simp [Forwarding.thinReset]
    · have other : j ≠ st.id := fun h => same h.symm
      simp [same, other]

/-- The thinning reset of the routed streams that a test picks. -/
theorem foldl_resetThinning_filter (p : Stream → Bool) {s : State} (shaped : s.ufe.fwd.length = 12) :
    (routedStreams.filter p).foldl resetThinning s = s.setUfe { s.ufe with
      fwd := routedStreams.map fun st => if p st then (s.ufe.fwdAt st.id).thinReset else s.ufe.fwdAt st.id } := by
  obtain ⟨fwd, folds, length, reads⟩ := foldl_resetThinning (routedStreams.filter p) shaped fun st hst =>
    id_lt_of_mem st (List.mem_filter.mp hst).1
  have listed : fwd = routedStreams.map fun st => if p st then (s.ufe.fwdAt st.id).thinReset else s.ufe.fwdAt st.id := by
    refine (fwd_eq_map (u := { s.ufe with fwd := fwd }) length).trans (List.map_congr_left fun st routed => ?_)
    have picked : st.id ∈ (routedStreams.filter p).map Stream.id ↔ p st = true := by
      rw [List.mem_map_of_injective Stream.id_injective, List.mem_filter]
      exact and_iff_right routed
    rw [reads]
    simp only [picked]
  rw [folds, listed]

/-! ### Batches that wait (R160, log 36) -/

theorem flushStream_of_empty {s : State} {st : Stream} (empty : (s.ufe.fwdAt st.id).acc = []) : flushStream s st = s :=
  if_pos empty

theorem foldl_flushStream_of_empty {sts : List Stream} {s : State} (empty : ∀ st ∈ sts, (s.ufe.fwdAt st.id).acc = []) :
    sts.foldl flushStream s = s := by
  induction sts with
  | nil => rfl
  | cons st sts ih =>
    rw [List.foldl_cons, flushStream_of_empty (empty st (by simp))]
    exact ih fun x hx => empty x (by simp [hx])

/-- A batch queued leaves the routing as it is, and empties the stream's accumulator alone. -/
theorem queueBatch_keeps (st : Stream) (cls : FrameClass) (s : State) :
    (queueBatch st cls s).ufe.active = s.ufe.active ∧ (queueBatch st cls s).ufe.pending = s.ufe.pending
    ∧ (queueBatch st cls s).ufe.column = s.ufe.column ∧ (queueBatch st cls s).partTime = s.partTime
    ∧ (queueBatch st cls s).ufe.fwd = s.ufe.fwd.set st.id { s.ufe.fwdAt st.id with acc := [], flush := .cancelled } := by
  obtain ⟨active, pending, column, fwd, time⟩ := admitFrame_keeps
    (batchFrame st (s.ufe.fwdAt st.id).acc cls (setFwd st.id { s.ufe.fwdAt st.id with acc := [], flush := .cancelled } s))
    (setFwd st.id { s.ufe.fwdAt st.id with acc := [], flush := .cancelled } s)
  exact ⟨active, pending, column, time, fwd⟩

/-- The routing of `s`: what a flush of batches leaves as it is. -/
def State.routedAs (s v : State) : Prop :=
  v.ufe.active = s.ufe.active ∧ v.ufe.pending = s.ufe.pending ∧ v.ufe.column = s.ufe.column ∧ v.partTime = s.partTime
  ∧ v.ufe.fwd.length = s.ufe.fwd.length

theorem flushStream_routedAs {s v : State} (same : s.routedAs v) (st : Stream) : s.routedAs (flushStream v st) := by
  unfold flushStream
  split
  · exact same
  · obtain ⟨active, pending, column, time, fwd⟩ := queueBatch_keeps st (v.ufe.columnOf st).cls v
    obtain ⟨active', pending', column', time', length⟩ := same
    exact ⟨active.trans active', pending.trans pending', column.trans column', time.trans time', by rw [fwd, List.length_set, length]⟩

theorem flushStream_lossWaits {s : State} (waits : lossWaits s) (st : Stream) : lossWaits (flushStream s st) := by
  unfold flushStream
  split
  · exact waits
  · exact admitFrame_lossWaits (s := setFwd _ _ s) waits (fun final => by cases final) fun full => by cases full.1

theorem foldl_flushStream_routedAs (sts : List Stream) {s v : State} (same : s.routedAs v) :
    s.routedAs (sts.foldl flushStream v) := by
  induction sts generalizing v with
  | nil => exact same
  | cons st sts ih => exact ih (flushStream_routedAs same st)

theorem foldl_flushStream_lossWaits (sts : List Stream) {s : State} (waits : lossWaits s) :
    lossWaits (sts.foldl flushStream s) := by
  induction sts generalizing s with
  | nil => exact waits
  | cons st sts ih => exact ih (flushStream_lossWaits waits st)

/-- A flush of `v`'s batch of a stream, under the routing of `s`. -/
def State.flushes (s v : State) (st : Stream) : State :=
  if (v.ufe.fwdAt st.id).acc = [] then v
  else
    admitFrame ⟨st, true, (s.ufe.columnOf st).cls, batchPayload (v.ufe.fwdAt st.id).acc, s.partTime, false⟩
      (v.setUfe { v.ufe with fwd := v.ufe.fwd.set st.id { v.ufe.fwdAt st.id with acc := [], flush := .cancelled } })

theorem flushStream_eq {s v : State} (same : s.routedAs v) (st : Stream) : flushStream v st = s.flushes v st := by
  obtain ⟨active, -, column, time, -⟩ := same
  have columns : v.ufe.columnOf st = s.ufe.columnOf st := by rw [Ufe.columnOf, Ufe.columnOf, active, column]
  rw [flushStream, State.flushes, queueBatch, columns, ← time]
  rfl

theorem foldl_flushStream_eq (sts : List Stream) {s v : State} (same : s.routedAs v) :
    sts.foldl flushStream v = sts.foldl s.flushes v := by
  induction sts generalizing v with
  | nil => rfl
  | cons st sts ih =>
    rw [List.foldl_cons, List.foldl_cons, ← flushStream_eq same st]
    exact ih (flushStream_routedAs same st)

theorem routedAs_refl (s : State) : s.routedAs s := ⟨rfl, rfl, rfl, rfl, rfl⟩

theorem foldl_resetThinning_switched (p : Platform) {s v : State} (same : s.routedAs v) (shaped : s.ufe.fwd.length = 12) :
    (routedStreams.filter fun st => (entryAt v.ufe.active st.id).awake != (entryAt v.ufe.active st.id).asleep).foldl resetThinning
      (v.setUfe { v.ufe with column := p }) = v.setUfe { v.ufe with
        column := p
        fwd := routedStreams.map fun st =>
          if (entryAt s.ufe.active st.id).awake != (entryAt s.ufe.active st.id).asleep then (v.ufe.fwdAt st.id).thinReset
          else v.ufe.fwdAt st.id } := by
  obtain ⟨active, -, -, -, length⟩ := same
  rw [active]
  exact foldl_resetThinning_filter _ (s := v.setUfe { v.ufe with column := p }) (length.trans shaped)

/-- A change of column, whole: the batches first, then the column and the thinning of the streams whose columns differ. -/
theorem changeColumn_eq (p : Platform) {s v : State} (flushed : routedStreams.foldl flushStream s = v)
    (shaped : s.ufe.fwd.length = 12) :
    changeColumn p s = v.setUfe { v.ufe with
      column := p
      fwd := routedStreams.map fun st =>
        if (entryAt s.ufe.active st.id).awake != (entryAt s.ufe.active st.id).asleep then (v.ufe.fwdAt st.id).thinReset
        else v.ufe.fwdAt st.id } := by
  have same := foldl_flushStream_routedAs routedStreams (routedAs_refl s)
  unfold changeColumn
  rw [flushed] at same ⊢
  exact foldl_resetThinning_switched p same shaped

theorem foldl_resetThinning_committed (p : Stream → Bool) {s v : State} (same : s.routedAs v) (shaped : s.ufe.fwd.length = 12) :
    (routedStreams.filter p).foldl resetThinning (v.setUfe { v.ufe with active := v.ufe.pending }) = v.setUfe { v.ufe with
      active := s.ufe.pending
      fwd := routedStreams.map fun st => if p st then (v.ufe.fwdAt st.id).thinReset else v.ufe.fwdAt st.id } := by
  obtain ⟨-, pending, -, -, length⟩ := same
  rw [pending]
  exact foldl_resetThinning_filter p (s := v.setUfe { v.ufe with active := s.ufe.pending }) (length.trans shaped)

/-- A commit, whole: the batches of the entries that change first, then the bank and their thinning. -/
theorem commitRoutes_eq {s v : State} (flushed : (changedStreams s.ufe).foldl flushStream s = v)
    (shaped : s.ufe.fwd.length = 12) :
    commitRoutes s = v.setUfe { v.ufe with
      active := s.ufe.pending
      fwd := routedStreams.map fun st =>
        if entryAt s.ufe.pending st.id != entryAt s.ufe.active st.id then (v.ufe.fwdAt st.id).thinReset
        else v.ufe.fwdAt st.id } := by
  have same := foldl_flushStream_routedAs (changedStreams s.ufe) (routedAs_refl s)
  unfold commitRoutes
  dsimp only
  rw [flushed] at same ⊢
  exact foldl_resetThinning_committed _ same shaped

/-! ### One batch waiting, with room (R165) -/

/-- A pass over streams of which one has a batch queues that one. -/
theorem foldl_flushStream_of_one {sts : List Stream} {s : State} {st : Stream} (member : st ∈ sts) (inRange : st.id < s.ufe.fwd.length)
    (waiting : (s.ufe.fwdAt st.id).acc ≠ []) (others : ∀ other ∈ sts, other ≠ st → (s.ufe.fwdAt other.id).acc = []) :
    sts.foldl flushStream s = queueBatch st (s.ufe.columnOf st).cls s := by
  induction sts with
  | nil => cases member
  | cons x sts ih =>
    rw [List.foldl_cons]
    by_cases here : x = st
    · subst here
      rw [flushStream, if_neg waiting]
      refine foldl_flushStream_of_empty fun other hother => ?_
      obtain ⟨-, -, -, -, fwd⟩ := queueBatch_keeps x (s.ufe.columnOf x).cls s
      have reads := setFwd_fwdAt x.id other.id { s.ufe.fwdAt x.id with acc := [], flush := .cancelled } s inRange
      have same : (queueBatch x (s.ufe.columnOf x).cls s).ufe.fwdAt other.id
          = (setFwd x.id { s.ufe.fwdAt x.id with acc := [], flush := .cancelled } s).ufe.fwdAt other.id := by
        rw [Ufe.fwdAt, fwd]
        rfl
      rw [same, reads]
      split
      · rfl
      · next differs => exact others other (by simp [hother]) fun h => differs (by rw [h])
    · rw [flushStream_of_empty (others x (by simp) here)]
      exact ih ((List.mem_cons.mp member).resolve_left fun h => here h.symm) fun other hother =>
        others other (by simp [hother])

theorem Ufe.joined_fwd (u : Ufe) (fwd : List Forwarding) (f : Frame) :
    ({ u with fwd := fwd } : Ufe).joined f = { u.joined f with fwd := fwd } := by
  unfold Ufe.joined
  split <;> rfl

theorem Ufe.joined_loss_waits {u : Ufe} (f : Frame) (waits : u.finalLost ≠ none → u.sending ≠ none) :
    (u.joined f).finalLost ≠ none → (u.joined f).sending ≠ none := by
  unfold Ufe.joined
  split
  · exact fun _ => Option.some_ne_none _
  · exact waits

/-- A batch queued with room joins the queue or begins at once. -/
theorem queueBatch_joined {s : State} (st : Stream) (cls : FrameClass) (settled : transmitterSettled s)
    (room : s.ufe.queue.length < 48) (lower : s.ufe.lowerCount < 40) :
    queueBatch st cls s = s.setUfe { s.ufe.joined ⟨st, true, cls, batchPayload (s.ufe.fwdAt st.id).acc, s.partTime, false⟩ with
      fwd := s.ufe.fwd.set st.id { s.ufe.fwdAt st.id with acc := [], flush := .cancelled } } := by
  let v := setFwd st.id { s.ufe.fwdAt st.id with acc := [], flush := .cancelled } s
  have admits := admitFrame_of_room (batchFrame st (s.ufe.fwdAt st.id).acc cls v) v room lower
  have joins := enqueue_joined (batchFrame st (s.ufe.fwdAt st.id).acc cls v) v settled
  rw [← Ufe.joined_fwd]
  exact admits.trans joins

/-- With no batch waiting, a pass over any streams queues none. -/
theorem foldl_flushStream_of_none {s : State} (none : ∀ w ∈ s.ufe.fwd, w.acc = []) (sts : List Stream) :
    sts.foldl flushStream s = s := by
  refine foldl_flushStream_of_empty fun st _ => ?_
  rw [Ufe.fwdAt, List.getD_eq_getElem?_getD]
  cases read : s.ufe.fwd[st.id]? with
  | none => rfl
  | some w => exact none w (List.mem_of_getElem? read)

theorem thinned_of_map {s : State} (u : Ufe) {p : Stream → Bool} {resets : Stream → Prop} (test : ∀ st, p st = true ↔ resets st) :
    let w : Ufe := { u with fwd := routedStreams.map fun st => if p st then (s.ufe.fwdAt st.id).thinReset else s.ufe.fwdAt st.id }
    ∀ st ∈ routedStreams, (resets st → w.fwdAt st.id = (s.ufe.fwdAt st.id).thinReset)
      ∧ (¬ resets st → w.fwdAt st.id = s.ufe.fwdAt st.id) :=
  fun st routed => ⟨fun now => (fwdAt_map u _ routed).trans (if_pos ((test st).mpr now)),
    fun other => (fwdAt_map u _ routed).trans (if_neg ((test st).not.mpr other))⟩

/-- The stream whose batch has been queued has none, whatever its thinning. -/
theorem emptied_of_map {st : Stream} (u : Ufe) (p : Stream → Bool) {l : List Forwarding} {w : Forwarding} (routed : st ∈ routedStreams)
    (inRange : st.id < l.length) :
    let v : Ufe := { u with fwd := l.set st.id { w with acc := [], flush := .cancelled } }
    let t : Ufe := { v with fwd := routedStreams.map fun x => if p x then (v.fwdAt x.id).thinReset else v.fwdAt x.id }
    (t.fwdAt st.id).acc = [] ∧ (t.fwdAt st.id).flush = .cancelled := by
  intro v t
  have reads : v.fwdAt st.id = { w with acc := [], flush := .cancelled } := by simp [v, Ufe.fwdAt, inRange]
  rw [show t.fwdAt st.id = _ from fwdAt_map v _ routed, reads]
  split <;> exact ⟨rfl, rfl⟩

theorem bne_eq_decide {α : Type} [DecidableEq α] (a b : α) : (a != b) = decide (a ≠ b) := by
  by_cases same : a = b <;> simp [same]

theorem ite_bne {α β : Type} [DecidableEq α] (a b : α) (x y : β) :
    (if (a != b) = true then x else y) = if a = b then y else x := by
  by_cases same : a = b <;> simp [same]

/-- A change of column settles no loss. -/
theorem settleLoss_changeColumn (p : Platform) {s v : State} (flushed : routedStreams.foldl flushStream s = v)
    (waits : lossWaits s) (shaped : s.ufe.fwd.length = 12) :
    settleLoss (changeColumn p s) = v.setUfe { v.ufe with
      column := p
      fwd := routedStreams.map fun st =>
        if (entryAt s.ufe.active st.id).awake = (entryAt s.ufe.active st.id).asleep then v.ufe.fwdAt st.id
        else (v.ufe.fwdAt st.id).thinReset } := by
  have waits' : lossWaits v := flushed ▸ foldl_flushStream_lossWaits routedStreams waits
  rw [changeColumn_eq p flushed shaped, settleLoss_of_waits _ (by exact waits'.loss_waits)]
  simp only [ite_bne]

/-- A commit settles no loss. -/
theorem settleLoss_commitRoutes {s v : State} (flushed : (changedStreams s.ufe).foldl flushStream s = v) (waits : lossWaits s)
    (shaped : s.ufe.fwd.length = 12) :
    settleLoss (commitRoutes s) = v.setUfe { v.ufe with
      active := s.ufe.pending
      fwd := routedStreams.map fun st =>
        if decide (entryAt s.ufe.pending st.id ≠ entryAt s.ufe.active st.id) then (v.ufe.fwdAt st.id).thinReset
        else v.ufe.fwdAt st.id } := by
  have waits' : lossWaits v := flushed ▸ foldl_flushStream_lossWaits (changedStreams s.ufe) waits
  rw [commitRoutes_eq flushed shaped, settleLoss_of_waits _ (by exact waits'.loss_waits)]
  simp only [bne_eq_decide]

/-- Settles O52: the flush timer, and changes of column and of bank with no batch, one batch and any batches waiting. -/
theorem routesSwitched : Obligations.RoutesSwitched := by
  unfold Obligations.RoutesSwitched
  intro batchOf emptied thin
  refine ⟨fun st s due => ?_, fun tag p s noLoss shaped none => ?_, fun tag p st s settled room lower shaped routed waiting others => ?_,
    fun tag p s waits shaped => ?_⟩
  · have arm : exec (.flushTimerExpiry st) s = .next (settleLoss (queueBatch st (s.ufe.columnOf st).cls s)) := if_pos due
    refine ⟨fun waits => ?_, fun settled room lower => ?_⟩
    · rw [arm]
      exact congrArg _ (settleLoss_of_waits _ (admitFrame_lossWaits (s := setFwd _ _ s) waits (fun final => by cases final)
        fun full => by cases full.1).loss_waits)
    · have joins := queueBatch_joined st (s.ufe.columnOf st).cls settled room lower
      rw [← Ufe.joined_fwd] at joins
      rw [arm, joins]
      exact congrArg _ (settleLoss_of_waits _ (Ufe.joined_loss_waits _ settled.1))
  · intro change commit thinned
    refine ⟨fun same => if_pos same.symm, fun differs => ?_, ?_⟩
    · have shape := changeColumn_eq p (foldl_flushStream_of_none (s := s.took change) none _) shaped
      have arm : exec change s = .next (settleLoss (changeColumn p (s.took change))) := if_neg fun same => differs same.symm
      rw [shape, settleLoss_of_none _ (by exact noLoss)] at arm
      exact ⟨_, arm, (kept_took _ s change).trans (kept_setUfe _ _), (List.append_nil _).symm, rfl,
        thinned_of_map (s := s) { s.ufe with column := p } fun st => bne_iff_ne⟩
    · have shape := commitRoutes_eq (foldl_flushStream_of_none (s := s.took commit) none _) shaped
      have arm : exec commit s = .next (answerOk commit tag 0x07 (settleLoss (commitRoutes (s.took commit)))) := rfl
      rw [shape, settleLoss_of_none _ (by exact noLoss)] at arm
      exact ⟨_, _, arm, answer_replied _ _ _ _ _ _ _, (kept_took _ s commit).trans (kept_setUfe _ _), (List.append_nil _).symm,
        rfl, thinned_of_map (s := s) { s.ufe with active := s.ufe.pending } fun st => bne_iff_ne⟩
  · intro change commit queued
    have inRange : st.id < s.ufe.fwd.length := shaped ▸ id_lt_of_mem st routed
    refine ⟨fun differs => ?_, ?_⟩
    · have flushed := (foldl_flushStream_of_one (s := s.took change) routed inRange waiting others).trans
        (queueBatch_joined st _ settled room lower)
      have arm : exec change s = .next (settleLoss (changeColumn p (s.took change))) := if_neg fun same => differs same.symm
      rw [changeColumn_eq p flushed shaped, settleLoss_of_waits _ (by exact Ufe.joined_loss_waits _ settled.1)] at arm
      exact ⟨_, arm, (kept_took _ s change).trans ((kept_setUfe _ _).trans (kept_setUfe _ _)), (List.append_nil _).symm, rfl,
        emptied_of_map _ _ routed inRange⟩
    · have arm : exec commit s = .next (answerOk commit tag 0x07 (settleLoss (commitRoutes (s.took commit)))) := rfl
      by_cases same : entryAt s.ufe.pending st.id = entryAt s.ufe.active st.id
      · have untouched : ∀ other ∈ changedStreams s.ufe, (s.ufe.fwdAt other.id).acc = [] := fun other member => by
          obtain ⟨listed, changes⟩ := List.mem_filter.mp member
          refine others other listed fun h => ?_
          subst h
          exact bne_iff_ne.mp changes same
        have flushed := foldl_flushStream_of_empty (s := s.took commit) untouched
        rw [commitRoutes_eq flushed shaped, settleLoss_of_waits _ (by exact settled.1)] at arm
        exact ⟨_, _, arm, answer_replied _ _ _ _ _ _ _, (kept_took _ s commit).trans (kept_setUfe _ _),
          (List.append_nil _).symm, fun changes => absurd same changes, fun _ => ⟨rfl, (fwdAt_map { s.ufe with active := s.ufe.pending } _ routed).trans
            (if_neg fun changes => bne_iff_ne.mp changes same)⟩⟩
      · have member : st ∈ changedStreams s.ufe := List.mem_filter.mpr ⟨routed, bne_iff_ne.mpr same⟩
        have flushed := (foldl_flushStream_of_one (s := s.took commit) member inRange waiting fun other hother =>
          others other (List.mem_filter.mp hother).1).trans (queueBatch_joined st _ settled room lower)
        rw [commitRoutes_eq flushed shaped, settleLoss_of_waits _ (by exact Ufe.joined_loss_waits _ settled.1)] at arm
        exact ⟨_, _, arm, answer_replied _ _ _ _ _ _ _,
          (kept_took _ s commit).trans ((kept_setUfe _ _).trans (kept_setUfe _ _)), (List.append_nil _).symm,
          fun _ => ⟨rfl, emptied_of_map _ _ routed inRange⟩, fun equal => absurd equal same⟩
  · intro change commit flushed changed
    refine ⟨fun differs => ?_, ?_⟩
    · intro v
      have arm : exec change s = .next (settleLoss (changeColumn p (s.took change))) := if_neg fun same => differs same.symm
      have flushes : routedStreams.foldl flushStream (s.took change) = v :=
        foldl_flushStream_eq routedStreams (s := s) ⟨rfl, rfl, rfl, rfl, rfl⟩
      clear_value v
      exact arm.trans (congrArg _ (settleLoss_changeColumn p flushes waits shaped))
    · intro v
      have arm : exec commit s = .next (answerOk commit tag 0x07 (settleLoss (commitRoutes (s.took commit)))) := rfl
      have picked : routedStreams.filter changed = changedStreams s.ufe :=
        List.filter_congr fun st _ => (bne_eq_decide _ _).symm
      have flushes : (changedStreams s.ufe).foldl flushStream (s.took commit) = v := by
        rw [← picked]
        exact foldl_flushStream_eq (routedStreams.filter changed) (s := s) ⟨rfl, rfl, rfl, rfl, rfl⟩
      clear_value v
      rw [settleLoss_commitRoutes flushes waits shaped] at arm
      exact ⟨_, arm, answer_replied _ _ _ _ _ _ _⟩

end Sys2Proof.Machine
end

-- PROOFS: the receiver of the host link, and a complete frame joining the queue (chapter 11; O54).
section

namespace Sys2Proof.Machine

/-! ### A complete frame joins (R173 to R175) -/

/-- A frame that joins an idle queue is taken up at once; one that joins a queue that waits for a reset is not. -/
theorem joinQueue_of_empty (kindByte : Byte) (f : DownFrame) {s : State} (empty : s.hlm.queue = []) :
    joinQueue kindByte f s = { s with
      hlm := { s.hlm with
        queue := [f]
        busy := if s.hlm.busyOn ≤ 1 then true else s.hlm.busy
        head := if s.hlm.head = .idle ∧ f.kind = .request then .executing else s.hlm.head }
      inflight := s.inflight ++ if s.hlm.head = .idle then [f.command] else [] } := by
  have room : s.hlm.queue.length < 8 := by simp [empty]
  unfold joinQueue
  rw [if_pos room, if_pos empty, empty]
  unfold takeUp
  cases head : s.hlm.head <;> cases kind : f.kind <;>
    simp [kind, Hlm.busyJoined, State.setHlm, State.emit, State.emits]

/-! ### The receiver from HUNTING (R172) -/

/-- The bytes of a frame still partial, with their gap timer. -/
def State.holding (s : State) (rx : List RxByte) : State := s.setHlm { s.hlm with rx := rx, gapTimer := gapTimerOf rx }

theorem receive_eq (rx : List RxByte) (s : State) : receive rx s = (hunt 0 rx).1.foldl applyRx (s.holding (hunt 0 rx).2) := rfl

theorem hunt_eq_drop (skip : Nat) (rx : List RxByte) : hunt skip rx = hunt 0 (rx.drop skip) := by
  induction skip generalizing rx with
  | zero => rfl
  | succ skip ih =>
    cases rx with
    | nil => rfl
    | cons b rx => exact ih rx

theorem joinQueue_holding (kindByte : Byte) (f : DownFrame) (s : State) (rx : List RxByte) :
    joinQueue kindByte f (s.holding rx) = (joinQueue kindByte f s).holding rx := by
  by_cases room : s.hlm.queue.length < 8
  · by_cases empty : s.hlm.queue = []
    · rw [joinQueue_of_empty kindByte f empty, joinQueue_of_empty (s := s.holding rx) kindByte f empty]
      rfl
    · rw [joinQueue_of_room kindByte f s room empty, joinQueue_of_room kindByte f (s.holding rx) room empty]
      rfl
  · rw [joinQueue_of_full kindByte f s room, joinQueue_of_full kindByte f (s.holding rx) room]
    rfl

/-- What an event does is independent of the bytes that the receiver holds. -/
theorem applyRx_holding (s : State) (rx : List RxByte) (e : RxEvent) :
    applyRx (s.holding rx) e = (applyRx s e).holding rx := by
  cases e with
  | discard f => cases f <;> rfl
  | frame kindByte f => exact joinQueue_holding kindByte f s rx

/-- Events taken one by one, and the bytes that the receiver is left with. -/
theorem receive_of_hunt {rx rest : List RxByte} {e : RxEvent} (s : State)
    (found : hunt 0 rx = (e :: (hunt 0 rest).1, (hunt 0 rest).2)) : receive rx s = receive rest (applyRx s e) := by
  rw [receive_eq, receive_eq, found, ← applyRx_holding]
  rfl

theorem receive_nil (s : State) : receive [] s = s.setHlm { s.hlm with rx := [], gapTimer := .cancelled } := rfl

/-- In HUNTING a byte other than SYNC is discarded. -/
theorem receive_other {b : RxByte} (other : b.byte ≠ 0xC3) (rest : List RxByte) (s : State) :
    receive (b :: rest) s = receive rest s := by
  have found : hunt 0 (b :: rest) = hunt 0 rest := if_pos other
  rw [receive_eq, receive_eq, found]

theorem receive_unfinished {sync : RxByte} {rest : List RxByte} (starts : sync.byte = 0xC3)
    (verdict : judge (rest.map RxByte.byte) = .unfinished) (s : State) : receive (sync :: rest) s = s.holding (sync :: rest) := by
  have found : hunt 0 (sync :: rest) = ([], sync :: rest) := by
    rw [hunt, if_neg (not_not.mpr starts), verdict]
  rw [receive_eq, found]
  rfl

/-- A fault is counted, and the receiver hunts again behind the discarded SYNC. -/
theorem receive_faulty {sync : RxByte} {rest : List RxByte} {f : RxFault} (starts : sync.byte = 0xC3)
    (verdict : judge (rest.map RxByte.byte) = .faulty f) (s : State) :
    receive (sync :: rest) s = receive rest (applyRx s (.discard f)) := by
  refine receive_of_hunt s ?_
  rw [hunt, if_neg (not_not.mpr starts), verdict]

/-- A complete frame is taken before the bytes behind it. -/
theorem receive_complete {sync : RxByte} {rest : List RxByte} {kindByte : Byte} {f : DownFrame} (starts : sync.byte = 0xC3)
    (verdict : judge (rest.map RxByte.byte) = .complete kindByte f) (s : State) :
    receive (sync :: rest) s = receive (rest.drop (f.payload.length + 4)) (joinQueue kindByte f s) := by
  refine receive_of_hunt (e := .frame kindByte f) s ?_
  rw [hunt, if_neg (not_not.mpr starts), verdict, ← hunt_eq_drop (f.payload.length + 4)]

/-- With no SYNC among them, all bytes are discarded. -/
theorem receive_of_no_sync {rest : List RxByte} (none : ∀ r ∈ rest, r.byte ≠ 0xC3) (s : State) :
    receive rest s = s.setHlm { s.hlm with rx := [], gapTimer := .cancelled } := by
  induction rest with
  | nil => exact receive_nil s
  | cons b rest ih =>
    rw [receive_other (none b (by simp)) rest s]
    exact ih fun r hr => none r (by simp [hr])

/-! ### The verdict on the bytes after a SYNC (R171, R172) -/

/-- The kind of a known KIND byte. -/
def kindOf (k : Byte) : DownKind := if k = 0x40 then .request else .dockItem

theorem downKind_of_known {k : Byte} (known : k = 0x40 ∨ k = 0x41) : downKind k = some (kindOf k) := by
  rcases known with rfl | rfl <;> rfl

theorem downKind_of_unknown {k : Byte} (unknown : ¬ (k = 0x40 ∨ k = 0x41)) : downKind k = none := by
  obtain ⟨request, item⟩ := not_or.mp unknown
  rw [downKind, if_neg request, if_neg item]

theorem kindOf_maxLength (k : Byte) : (kindOf k).maxLength = if k = 0x40 then 60 else 16 := by
  unfold kindOf
  split <;> rfl

theorem judge_unknown {k : Byte} (unknown : ¬ (k = 0x40 ∨ k = 0x41)) (rest : List Byte) : judge (k :: rest) = .faulty .kind := by
  simp only [judge, downKind_of_unknown unknown]

theorem judge_kind {k : Byte} (known : k = 0x40 ∨ k = 0x41) : judge [k] = .unfinished := by
  simp only [judge, downKind_of_known known]

theorem judge_long {k l : Byte} (known : k = 0x40 ∨ k = 0x41) (long : (kindOf k).maxLength < l.toNat) (rest : List Byte) :
    judge (k :: l :: rest) = .faulty .length := by
  simp only [judge, downKind_of_known known]
  exact if_pos long

theorem judge_body {k l : Byte} (known : k = 0x40 ∨ k = 0x41) (fits : l.toNat ≤ (kindOf k).maxLength) (rest : List Byte) :
    judge (k :: l :: rest) = judgeBody (kindOf k) k l rest := by
  simp only [judge, downKind_of_known known]
  exact if_neg (Nat.not_lt.mpr fits)

/-- A frame without its CHECK is partial. -/
theorem judgeBody_unfinished {kind : DownKind} {k l : Byte} {rest : List Byte} (short : rest.length ≤ l.toNat + 1) :
    judgeBody kind k l rest = .unfinished := by
  have none : rest[l.toNat + 1]? = none := List.getElem?_eq_none short
  unfold judgeBody
  rw [none]
  cases rest <;> rfl

theorem judgeBody_whole {kind : DownKind} {k l tag check : Byte} {payload : List Byte} (rest : List Byte)
    (length : payload.length = l.toNat) :
    judgeBody kind k l (tag :: payload ++ check :: rest) =
      if crc8 (k :: l :: tag :: payload) = check then .complete k ⟨kind, tag, payload⟩ else .faulty .check := by
  have last : (tag :: payload ++ check :: rest)[l.toNat + 1]? = some check := by
    rw [List.cons_append, List.getElem?_cons_succ, ← length, List.getElem?_append_right (Nat.le_refl _), Nat.sub_self]
    rfl
  have taken : (payload ++ check :: rest).take l.toNat = payload := by
    rw [← length, List.take_left]
  unfold judgeBody
  rw [last]
  simp only [List.cons_append, taken]

/-! ### The settling theorem -/

theorem exec_byteReceived (b : Byte) (stop : Bool) (s : State) :
    exec (.byteReceived b stop) s = .next (receive (s.hlm.rx ++ [⟨b, s.partTime⟩]) s) := rfl

theorem exec_gapTimerExpiry {s : State} (due : s.hlm.gapTimer.due s.partTime = true) :
    exec .gapTimerExpiry s
      = .next (receive s.hlm.rx.tail (s.setHlm { s.hlm with gapErrors := min 65535 (s.hlm.gapErrors + 1) })) :=
  if_pos due

theorem holding_append (s : State) (rx : List RxByte) (last : RxByte) :
    s.holding (rx ++ [last]) = s.setHlm { s.hlm with rx := rx ++ [last], gapTimer := .running (last.time + 2) } := by
  rw [State.holding, gapTimerOf, List.getLast?_concat]

/-- The bytes of a frame that its CHECK ends. -/
theorem judge_framed {k l tag check : Byte} {payload : List Byte} (rest : List Byte) (known : k = 0x40 ∨ k = 0x41)
    (fits : l.toNat ≤ (kindOf k).maxLength) (length : payload.length = l.toNat) :
    judge (k :: l :: tag :: payload ++ check :: rest) =
      if crc8 (k :: l :: tag :: payload) = check then .complete k ⟨kindOf k, tag, payload⟩ else .faulty .check :=
  (judge_body known fits _).trans (judgeBody_whole rest length)

/-- Settles O54: the receiver's faults, its hunting, and a frame joining a queue of any length. -/
theorem framesJoin : Obligations.FramesJoin := by
  refine ⟨?_, exec_byteReceived, fun t0 rest s due held => ?_, ?_, ?_⟩
  · intro b len tag check stop t0 t1 t2 t3 s now hunting within sync
    have starts : sync.byte = 0xC3 := rfl
    refine ⟨fun held other => ?_, fun held => ?_, fun held request item other => ?_, fun held => ?_, fun held long other => ?_,
      fun held long other => ?_, fun held tagOther checkOther wrong => ?_, fun due ⟨rest, held, noSync⟩ => ?_⟩
    · rw [exec_byteReceived, held]
      exact congrArg _ (receive_other (b := ⟨b, now⟩) other [] s)
    · rw [exec_byteReceived, held]
      exact congrArg _ (receive_unfinished (sync := ⟨0xC3, now⟩) (rest := []) rfl rfl s)
    · have unknown : ¬ (b = 0x40 ∨ b = 0x41) := not_or.mpr ⟨request, item⟩
      rw [exec_byteReceived, held]
      exact congrArg _ ((receive_faulty (rest := [⟨b, now⟩]) starts (judge_unknown unknown []) s).trans
        (receive_other (b := ⟨b, now⟩) other [] _))
    · rw [exec_byteReceived, held]
      exact congrArg _ ((receive_faulty (rest := [⟨0xC3, now⟩]) starts (judge_unknown (k := 0xC3) (by decide) []) s).trans
        (receive_unfinished (sync := ⟨0xC3, now⟩) (rest := []) rfl rfl _))
    · rw [exec_byteReceived, held]
      refine congrArg _ ((receive_faulty (rest := [⟨0x40, t1⟩, ⟨len, now⟩]) starts
        (judge_long (k := 0x40) (.inl rfl) (by exact long) []) s).trans (receive_of_no_sync ?_ _))
      simpa using other
    · rw [exec_byteReceived, held]
      refine congrArg _ ((receive_faulty (rest := [⟨0x41, t1⟩, ⟨len, now⟩]) starts
        (judge_long (k := 0x41) (.inr rfl) (by exact long) []) s).trans (receive_of_no_sync ?_ _))
      simpa using other
    · have verdict : judge [0x40, 0, tag, check] = .faulty .check :=
        (judge_framed (k := 0x40) (l := 0) (payload := []) [] (.inl rfl) (Nat.zero_le _) rfl).trans
          (if_neg fun same => wrong same.symm)
      rw [exec_byteReceived, held]
      refine congrArg _ ((receive_faulty (rest := [⟨0x40, t1⟩, ⟨0, t2⟩, ⟨tag, t3⟩, ⟨check, now⟩]) starts verdict s).trans
        (receive_of_no_sync ?_ _))
      simpa using ⟨tagOther, checkOther⟩
    · rw [exec_gapTimerExpiry due, held]
      exact congrArg _ (receive_of_no_sync noSync _)
  · rw [exec_gapTimerExpiry due, held]
    rfl
  · intro r sync k l tag check payload rest s starts limit known body frame partly
    have limit_eq : (kindOf k.byte).maxLength = limit := kindOf_maxLength k.byte
    refine ⟨receive_nil s, fun other => receive_other other rest s, receive_unfinished (rest := []) starts rfl s,
      fun is => receive_unfinished (rest := [k]) starts (judge_kind is) s, fun is fits => ?_, fun is fits short => ?_,
      fun not => receive_faulty (rest := k :: rest) starts (judge_unknown not _) s, fun is long => ?_,
      fun is fits length wrong => ?_, fun is fits length right => ?_⟩
    · exact receive_unfinished (rest := [k, l]) starts
        ((judge_body is (limit_eq ▸ fits) []).trans (judgeBody_unfinished (Nat.zero_le _))) s
    · have last : (sync :: k :: l :: tag :: rest).getLast? = some ((tag :: rest).getLastD tag) := by
        cases rest <;> simp [List.getLast?_cons]
      have verdict : judge ((k :: l :: tag :: rest).map RxByte.byte) = .unfinished :=
        (judge_body is (limit_eq ▸ fits) _).trans (judgeBody_unfinished (by simpa using short))
      rw [receive_unfinished (rest := k :: l :: tag :: rest) starts verdict s, State.holding, gapTimerOf, last]
    · exact receive_faulty (rest := k :: l :: rest) starts (judge_long is (limit_eq ▸ long) _) s
    · have verdict : judge ((k :: l :: tag :: payload ++ check :: rest).map RxByte.byte) = .faulty .check := by
        rw [List.map_append]
        exact (judge_framed (rest.map RxByte.byte) is (limit_eq ▸ fits) (by simpa using length)).trans
          (if_neg fun same => wrong same.symm)
      exact receive_faulty (rest := k :: l :: tag :: payload ++ check :: rest) starts verdict s
    · have verdict : judge ((k :: l :: tag :: payload ++ check :: rest).map RxByte.byte) = .complete k.byte frame := by
        rw [List.map_append]
        exact (judge_framed (rest.map RxByte.byte) is (limit_eq ▸ fits) (by simpa using length)).trans (if_pos right.symm)
      have left : (k :: l :: tag :: payload ++ check :: rest).drop (frame.payload.length + 4) = rest := by
        simp [frame]
      refine (receive_complete (rest := k :: l :: tag :: payload ++ check :: rest) starts verdict s).trans ?_
      rw [left]
  · intro kindByte f s h t busy
    refine ⟨fun full => ?_, fun room some_queued => ?_, fun empty idle => ?_, fun empty waits => ?_⟩
    · have shape : t = _ := joinQueue_of_full kindByte f s (Nat.not_lt.mpr full)
      exact ⟨joinQueue_kept kindByte f s, by rw [shape]; rfl, by rw [shape]; rfl⟩
    · have shape : t = _ := joinQueue_of_room kindByte f s room some_queued
      exact ⟨joinQueue_kept kindByte f s, by rw [shape]; rfl, by rw [shape]; rfl⟩
    · have shape : t = _ := joinQueue_of_empty kindByte f empty
      have head : s.hlm.head = .idle := idle
      refine ⟨joinQueue_kept kindByte f s, by rw [shape]; simp [head], ?_⟩
      rw [shape]
      simp [busy, h, empty, head]
    · have shape : t = _ := joinQueue_of_empty kindByte f empty
      have head : s.hlm.head ≠ .idle := waits
      refine ⟨joinQueue_kept kindByte f s, ?_, by rw [shape]; simp [head]⟩
      rw [shape]
      simp [busy, h, empty, head]

end Sys2Proof.Machine
end

-- PROOFS: frames received byte by byte, the bits of a byte, CHECK, and the bytes sent upstream (chapter 11; O53).
section

namespace Sys2Proof.Machine

/-! ### CHECK (R171) -/

theorem crc8_append (bs : List Byte) (b : Byte) : crc8 (bs ++ [b]) = crcShift^[8] (crc8 bs ^^^ b) := by
  rw [crc8, List.foldl_append]
  rfl

/-- No other register than 0 is shifted to 0. -/
theorem crcShift_eq_zero_iff : ∀ r : Byte, crcShift r = 0 ↔ r = 0 := by decide

theorem iterate_crcShift_eq_zero_iff (n : Nat) (r : Byte) : crcShift^[n] r = 0 ↔ r = 0 := by
  induction n generalizing r with
  | zero => rfl
  | succ n ih => rw [Function.iterate_succ_apply, ih, crcShift_eq_zero_iff]

/-- A list of bytes followed by its own CHECK leaves the register at 0, and no other byte does. -/
theorem crc8_append_eq_zero_iff (bs : List Byte) (b : Byte) : crc8 (bs ++ [b]) = 0 ↔ b = crc8 bs := by
  rw [crc8_append, iterate_crcShift_eq_zero_iff]
  exact BitVec.xor_eq_zero_iff.trans eq_comm

/-! ### The bits of a byte (R170) -/

theorem characterBits_eq (b : Byte) : characterBits b = [false, b.getLsbD 0, b.getLsbD 1, b.getLsbD 2, b.getLsbD 3,
    b.getLsbD 4, b.getLsbD 5, b.getLsbD 6, b.getLsbD 7, true] := rfl

theorem byteOfBits_getLsbD : ∀ b : Byte, byteOfBits [b.getLsbD 0, b.getLsbD 1, b.getLsbD 2, b.getLsbD 3,
    b.getLsbD 4, b.getLsbD 5, b.getLsbD 6, b.getLsbD 7] = b := by decide

theorem readCharacter_characterBits (b : Byte) (stop : Bool) :
    readCharacter ((characterBits b).dropLast ++ [stop]) = some (.byteReceived b stop) := by
  rw [characterBits_eq]
  exact congrArg (fun x => some (Instr.byteReceived x stop)) (byteOfBits_getLsbD b)

/-- The ten bits of each byte of a line, in turn. -/
theorem line_character (bs : List Byte) {i : Nat} {b : Byte} (at_i : bs[i]? = some b) :
    ((bs.flatMap characterBits).drop (10 * i)).take 10 = characterBits b := by
  induction bs generalizing i with
  | nil => cases at_i
  | cons x bs ih =>
    have ten : (characterBits x).length = 10 := rfl
    rw [List.flatMap_cons]
    cases i with
    | zero =>
      obtain rfl : x = b := by simpa using at_i
      rw [Nat.mul_zero, List.drop_zero, List.take_left' ten]
    | succ i =>
      rw [Nat.mul_succ, Nat.add_comm, ← List.drop_drop, List.drop_left' ten]
      exact ih (by simpa using at_i)

/-! ### The payloads of records (11.7.6) -/

theorem telemetryWord_eq {duty current ceiling : Nat} (hd : duty < 1024) (hi : current < 2048) (hc : ceiling < 1024) :
    telemetryWord duty current ceiling = duty + 2 ^ 10 * current + 2 ^ 21 * ceiling := by
  unfold telemetryWord
  omega

theorem stage_eq_match (st : ChargerState) :
    st.stage.getD 15 = (match st with | .charging k | .paused (.charging k) _ _ => k | _ => 15) := by
  rcases st with _ | _ | k | _ | ⟨_ | k, d, b⟩ | ⟨_ | _, stage⟩ <;> rfl

/-- A CHARGE_TELEMETRY record with its state's stage `n` and its row kind's byte `m`. -/
theorem telemetry_payload {st : ChargerState} {kind : Option StageKind} {duty current ceiling n : Nat} {m : Byte} {ts : Stamp}
    (stage : st.stage.getD 15 = n) (row : (kind.map fun k => byteOf k.code).getD 0xFF = m)
    (hd : duty < 1024) (hi : current < 2048) (hc : ceiling < 1024) :
    (Record.chargeTelemetry st kind duty current ceiling ts).payload
      = [byteOf (16 * st.code + n), m] ++ le32 (duty + 2 ^ 10 * current + 2 ^ 21 * ceiling) ++ le16 ts.toNat := by
  rw [← telemetryWord_eq hd hi hc, ← stage, ← row, Nat.mul_comm]
  rfl

/-- A byte as a two-byte value. -/
theorem le16_byte (b : Byte) : le16 b.toNat = [b, 0] := by
  have high : b.toNat / 256 = 0 := Nat.div_eq_of_lt b.isLt
  rw [le16, high, byteOf, BitVec.ofNat_toNat, BitVec.setWidth_eq]
  rfl

/-! ### A run over the bytes of a frame (R171 to R173) -/

/-- The bytes as received at one part time. -/
def stamped (now : PartTime) (bs : List Byte) : List RxByte := bs.map fun b => ⟨b, now⟩

theorem stamped_byte (now : PartTime) (bs : List Byte) : (stamped now bs).map RxByte.byte = bs := by
  simp [stamped, Function.comp_def]

/-- A run of the machine. -/
def runs (k : Nat) (s : State) : Host.Outcome State Fault Refusal := Host.Core.run Sys2Proof.core k s

theorem runs_of_step {k : Nat} {s t : State} (steps : step s = .next t) : runs (k + 1) s = runs k t := by
  have unfolds := Host.Core.run.eq_def Sys2Proof.core (k + 1) s
  refine unfolds.trans ?_
  simp only [show Sys2Proof.core.step s = .next t from steps]
  rfl

theorem runs_zero (s : State) : runs 0 s = .next s := rfl

/-- The state with the commands `rest` waiting. -/
def State.waiting (s : State) (rest : List Instr) : State := { s with pending := rest }

theorem holding_holding (s : State) (rx rx' : List RxByte) : (s.holding rx).holding rx' = s.holding rx' := rfl

/-- Bytes that leave the frame partial, one after another. -/
theorem run_partial {bytes held : List Byte} {stops : List Bool} {rest : List Instr} (s : State)
    (length : stops.length = bytes.length)
    (unfinished : ∀ i < bytes.length, ∀ v : State, receive (stamped s.partTime (held ++ bytes.take (i + 1))) v
      = v.holding (stamped s.partTime (held ++ bytes.take (i + 1)))) (k : Nat) :
    runs (bytes.length + k)
      ((s.holding (stamped s.partTime held)).waiting (List.zipWith (fun b stop => .byteReceived b stop) bytes stops ++ rest))
      = runs k ((s.holding (stamped s.partTime (held ++ bytes))).waiting rest) := by
  induction bytes generalizing held stops with
  | nil => simp
  | cons b bytes ih =>
    obtain ⟨stop, stops, rfl⟩ := List.exists_cons_of_length_eq_add_one length
    let s' := (s.holding (stamped s.partTime held)).waiting (List.zipWith (fun b stop => .byteReceived b stop) bytes stops ++ rest)
    have first := unfinished 0 (Nat.succ_pos _) s'
    have steps : step ((s.holding (stamped s.partTime held)).waiting
          (List.zipWith (fun b stop => .byteReceived b stop) (b :: bytes) (stop :: stops) ++ rest))
        = .next ((s.holding (stamped s.partTime (held ++ [b]))).waiting
          (List.zipWith (fun b stop => .byteReceived b stop) bytes stops ++ rest)) := by
      have takes : stamped s.partTime held ++ [⟨b, s.partTime⟩] = stamped s.partTime (held ++ [b]) := by simp [stamped]
      change Host.Outcome.next (receive (stamped s.partTime held ++ [⟨b, s.partTime⟩]) s') = _
      rw [takes]
      exact congrArg _ first
    rw [List.length_cons, Nat.add_right_comm, runs_of_step steps]
    have next := ih (held := held ++ [b]) (stops := stops) (by simpa using length) fun i hi v => by
      simpa using unfinished (i + 1) (Nat.succ_lt_succ hi) v
    rw [next]
    simp

/-- The bytes behind SYNC without the last are partial, however few of them there are. -/
theorem judge_take {k l tag check : Byte} {payload : List Byte} (known : k = 0x40 ∨ k = 0x41)
    (fits : l.toNat ≤ (kindOf k).maxLength) (length : payload.length = l.toNat) {i : Nat} (short : i < payload.length + 4) :
    judge ((k :: l :: tag :: payload ++ [check]).take i) = .unfinished := by
  match i with
  | 0 => rfl
  | 1 => exact judge_kind known
  | 2 => exact (judge_body known fits []).trans (judgeBody_unfinished (Nat.zero_le _))
  | i + 3 =>
    refine (judge_body known fits _).trans (judgeBody_unfinished ?_)
    simp
    omega

/-- The KIND byte of a downstream kind. -/
def kindByteOf (kind : DownKind) : Byte := match kind with | .request => 0x40 | .dockItem => 0x41

theorem kindByteOf_known (kind : DownKind) : kindByteOf kind = 0x40 ∨ kindByteOf kind = 0x41 := by
  cases kind
  · exact .inl rfl
  · exact .inr rfl

theorem kindOf_kindByteOf (kind : DownKind) : kindOf (kindByteOf kind) = kind := by
  cases kind <;> rfl

/-- A frame received byte by byte from HUNTING joins the queue. -/
theorem run_frame (f : DownFrame) (stops : List Bool) (s : State) (hunting : s.hlm.rx = [])
    (fits : f.payload.length ≤ f.kind.maxLength) :
    let body := kindByteOf f.kind :: byteOf f.payload.length :: f.tag :: f.payload
    let wire := 0xC3 :: body ++ [crc8 body]
    stops.length = wire.length → s.pending = List.zipWith (fun b stop => .byteReceived b stop) wire stops →
    runs wire.length s
      = .next (joinQueue (kindByteOf f.kind) f { s with hlm := { s.hlm with rx := [], gapTimer := .cancelled }, pending := [] }) := by
  intro body wire length pending
  have limit : f.kind.maxLength < 256 := by cases f.kind <;> decide
  have len : (byteOf f.payload.length).toNat = f.payload.length := byteOf_toNat_of_le (by omega)
  have known := kindByteOf_known f.kind
  have fits' : (byteOf f.payload.length).toNat ≤ (kindOf (kindByteOf f.kind)).maxLength := by
    rw [len, kindOf_kindByteOf]
    exact fits
  obtain ⟨first, stops, rfl⟩ := List.exists_cons_of_length_eq_add_one length
  have length_wire : wire.length = body.length + 2 := by simp [wire]
  have some_left : stops ≠ [] := by
    rintro rfl
    simp [length_wire] at length
  obtain ⟨stops, last, rfl⟩ : ∃ stops' last, stops = stops' ++ [last] :=
    ⟨_, _, (List.dropLast_append_getLast some_left).symm⟩
  have length' : stops.length = body.length := by
    simpa [length_wire] using length
  have split : List.zipWith (fun b stop => Instr.byteReceived b stop) wire (first :: (stops ++ [last]))
      = .byteReceived 0xC3 first :: (List.zipWith (fun b stop => .byteReceived b stop) body stops
        ++ [.byteReceived (crc8 body) last]) := by
    change _ :: List.zipWith _ (body ++ [crc8 body]) (stops ++ [last]) = _
    rw [List.zipWith_append length'.symm]
    rfl
  rw [split] at pending
  let held := s.holding (stamped s.partTime (0xC3 :: body))
  have begins : step s = .next ((s.holding (stamped s.partTime [0xC3])).waiting
      (List.zipWith (fun b stop => .byteReceived b stop) body stops ++ [.byteReceived (crc8 body) last])) := by
    rw [step, pending]
    change Host.Outcome.next (receive (s.hlm.rx ++ [⟨0xC3, s.partTime⟩]) (s.waiting _)) = _
    rw [hunting]
    exact congrArg _ (receive_unfinished (sync := ⟨0xC3, s.partTime⟩) (rest := []) rfl rfl _)
  have ends : step (held.waiting [.byteReceived (crc8 body) last])
      = .next (joinQueue (kindByteOf f.kind) f { s with hlm := { s.hlm with rx := [], gapTimer := .cancelled }, pending := [] }) := by
    have verdict : judge ((stamped s.partTime (body ++ [crc8 body])).map RxByte.byte) = .complete (kindByteOf f.kind) f := by
      rw [stamped_byte]
      refine (judge_framed [] known fits' len.symm).trans ((if_pos rfl).trans ?_)
      rw [kindOf_kindByteOf]
    have left : (stamped s.partTime (body ++ [crc8 body])).drop (f.payload.length + 4) = [] := by
      simp [stamped, body]
    have takes : stamped s.partTime (0xC3 :: body) ++ [⟨crc8 body, s.partTime⟩]
        = ⟨0xC3, s.partTime⟩ :: stamped s.partTime (body ++ [crc8 body]) := by
      simp [stamped]
    change Host.Outcome.next (receive (stamped s.partTime (0xC3 :: body) ++ [⟨crc8 body, s.partTime⟩]) (held.waiting [])) = _
    rw [takes, receive_complete rfl verdict, left]
    refine congrArg _ ?_
    exact (joinQueue_holding (kindByteOf f.kind) f (held.waiting []) []).symm
  have middle := run_partial (held := [0xC3]) (rest := [.byteReceived (crc8 body) last]) s length' (fun i hi v => by
    have within : body.take (i + 1) = (body ++ [crc8 body]).take (i + 1) := by
      rw [List.take_append_of_le_length hi]
    have verdict : judge ((stamped s.partTime (body.take (i + 1))).map RxByte.byte) = .unfinished := by
      rw [stamped_byte, within]
      exact judge_take known fits' len.symm (by simp [body] at hi; omega)
    exact receive_unfinished (sync := ⟨0xC3, s.partTime⟩) rfl verdict v) 1
  rw [length_wire, runs_of_step begins]
  exact middle.trans ((runs_of_step ends).trans (runs_zero _))

/-! ### Batches (11.7.1) -/

theorem length_le16 (n : Nat) : (le16 n).length = 2 := rfl

/-- The records that BATCH takes end with their timestamp. -/
theorem valueBytes_of_payload {r : Record} {bytes : List Byte} {ts : Stamp} (time : r.stampBytes.length = 2)
    (payload : r.payload = bytes ++ le16 ts.toNat) : r.valueBytes = bytes ∧ r.stampBytes = le16 ts.toNat :=
  List.append_inj' payload time

theorem stampBytes_length {r : Record} (batched : r.stream ∈ [Stream.lidSample, .baseSample, .chargeTelemetry]) :
    r.stampBytes.length = 2 := by
  cases r <;> simp [Record.stream, Record.stampBytes, leStamp, length_le16] at batched ⊢

theorem batchPayload_eq {rs : List Record} {values : Record → List Byte} {time : Record → Stamp} {first last : Record}
    (head : rs.head? = some first) (final : rs.getLast? = some last)
    (laid : ∀ r ∈ rs, r.stream ∈ [Stream.lidSample, .baseSample, .chargeTelemetry]
      ∧ r.payload = values r ++ le16 (time r).toNat) :
    batchPayload rs = [byteOf rs.length] ++ le16 (time first).toNat ++ le16 (time last).toNat ++ rs.flatMap values := by
  have split (r : Record) (hr : r ∈ rs) : r.valueBytes = values r ∧ r.stampBytes = le16 (time r).toNat :=
    valueBytes_of_payload (stampBytes_length (laid r hr).1) (laid r hr).2
  have first_eq := (split first (List.mem_of_head? head)).2
  have last_eq := (split last (List.mem_of_getLast? final)).2
  have values_eq : rs.flatMap Record.valueBytes = rs.flatMap values :=
    List.flatMap_congr fun r hr => (split r hr).1
  simp [batchPayload, head, final, first_eq, last_eq, values_eq]

/-- Settles O53: a frame received byte by byte, the bits of a byte, CHECK, and the bytes of what is sent upstream. -/
theorem frameReceived : Obligations.FrameReceived := by
  refine ⟨fun f stops s hunting fits => ?_, ⟨characterBits_eq, readCharacter_characterBits, fun _ _ => rfl, fun x i b at_i => ?_⟩,
    crc8_append_eq_zero_iff, ⟨rfl, fun bs b => crc8_append bs b⟩, ⟨fun x => ?_, rfl⟩, ?_, ?_⟩
  · exact run_frame f stops s hunting fits
  · rw [Sending.line, line_character x.wire at_i]
    exact readCharacter_characterBits b true
  · intro body
    have kind : x.frame.kind = byteOf (x.frame.stream.id + if x.frame.batch then 0x20 else 0) := by
      rw [Frame.kind, Nat.add_comm]
    rw [Sending.wire, kind]
  · intro ts laid axes
    refine ⟨fun v => ⟨⟨rfl, rfl⟩, ⟨rfl, rfl⟩⟩, fun h q raw => ⟨rfl, rfl⟩, fun old new cause => ⟨rfl, rfl⟩,
      fun old new row h dock => ⟨rfl, ?_⟩, fun mark modifier codes => ⟨rfl, rfl⟩, fun mark dx dy buttons wheel => ⟨rfl, ?_⟩,
      fun draw identity faultBits => ⟨rfl, rfl⟩, fun kind state n => ⟨rfl, rfl⟩, fun inserted state => ⟨rfl, rfl⟩,
      fun state kind duty hd current hi ceiling hc => ⟨rfl, ?_⟩, fun line level => ⟨rfl, rfl⟩,
      fun reason cls => ⟨⟨rfl, rfl⟩, ⟨rfl, rfl⟩, fun a => ⟨rfl, rfl⟩⟩, fun reason set => ⟨rfl, rfl⟩,
      fun kind stage tag current => ⟨⟨rfl, rfl⟩, ⟨rfl, rfl⟩, ⟨rfl, rfl⟩, ⟨rfl, ?_⟩⟩,
      fun tag code status row data final => ⟨rfl, List.append_nil _⟩⟩
    · cases old <;> rfl
    · rw [byteOf, BitVec.ofNat_toNat]
      rfl
    · refine telemetry_payload (stage_eq_match state) ?_ hd hi hc
      cases kind <;> rfl
    · exact congrArg (fun bytes => [3, 0, kind] ++ bytes ++ le16 ts.toNat) (le16_byte tag)
  · intro rs values time first last head final laid
    exact batchPayload_eq head final laid

end Sys2Proof.Machine
end

-- PROOFS: the payloads of requests (chapter 11; O56).
section

namespace Sys2Proof.Machine

/-! ### The value of a SET_PARAM -/

/-- The four bytes of a value, the most significant first, make it up. -/
theorem value_of_bytes (v : BitVec 32) :
    v.extractLsb' 24 8 ++ v.extractLsb' 16 8 ++ v.extractLsb' 8 8 ++ v.extractLsb' 0 8 = v := by
  rw [BitVec.extractLsb'_append_extractLsb'_eq_extractLsb' (by decide),
    BitVec.extractLsb'_append_extractLsb'_eq_extractLsb' (by decide),
    BitVec.extractLsb'_append_extractLsb'_eq_extractLsb' (by decide)]
  exact BitVec.extractLsb'_eq_self

/-- The bytes of a value made up of four. -/
theorem bytes_of_value (a b c d : Byte) :
    [(d ++ c ++ b ++ a).extractLsb' 0 8, (d ++ c ++ b ++ a).extractLsb' 8 8, (d ++ c ++ b ++ a).extractLsb' 16 8,
      (d ++ c ++ b ++ a).extractLsb' 24 8] = [a, b, c, d] := by
  congr
  · exact BitVec.extractLsb'_append_eq_right
  · rw [BitVec.extractLsb'_append_eq_of_le (by decide)]
    exact BitVec.extractLsb'_append_eq_right
  · rw [BitVec.extractLsb'_append_eq_of_le (by decide), BitVec.extractLsb'_append_eq_of_le (by decide)]
    exact BitVec.extractLsb'_append_eq_right
  · rw [BitVec.extractLsb'_append_eq_of_le (by decide), BitVec.extractLsb'_append_eq_of_le (by decide)]
    exact BitVec.extractLsb'_append_eq_left

/-! ### Taking up a payload (11.7.2) -/

/-- A payload is unknown, or it is the layout of the request it is taken as. -/
def Taken (tag : Byte) (payload : List Byte) : Prop :=
  requestCommand tag payload = .requestUnknownCode tag payload ∨ requestBytes (requestCommand tag payload) = some (tag, payload)

theorem taken_setParam (tag : Byte) : ∀ args : List Byte, Taken tag (0x03 :: args)
  | [] | [_] | [_, _] | [_, _, _] | [_, _, _, _] | _ :: _ :: _ :: _ :: _ :: _ :: _ => .inl rfl
  | [id, a, b, c, d] => .inr (congrArg (fun value => some (tag, 0x03 :: id :: value)) (bytes_of_value a b c d))

theorem taken_writeRows (tag : Byte) : ∀ args : List Byte, Taken tag (0x05 :: args)
  | [] | [_] | [_, _] | ⟨⟨_ + 6, _⟩⟩ :: _ :: _ :: _ => .inl rfl
  | ⟨⟨0, _⟩⟩ :: _ :: _ :: _ | ⟨⟨1, _⟩⟩ :: _ :: _ :: _ | ⟨⟨2, _⟩⟩ :: _ :: _ :: _ | ⟨⟨3, _⟩⟩ :: _ :: _ :: _
  | ⟨⟨4, _⟩⟩ :: _ :: _ :: _ | ⟨⟨5, _⟩⟩ :: _ :: _ :: _ => .inr rfl

theorem taken_readRows (tag : Byte) : ∀ args : List Byte, Taken tag (0x06 :: args)
  | [] | [_] | [_, _] | [_, _, _] | _ :: _ :: _ :: _ :: _ :: _ => .inl rfl
  | [_, _, _, _] => .inr rfl

theorem taken_commit (tag : Byte) : ∀ args : List Byte, Taken tag (0x07 :: args)
  | [] | _ :: _ :: _ | [⟨⟨0, _⟩⟩] | [⟨⟨1, _⟩⟩] | [⟨⟨_ + 5, _⟩⟩] => .inl rfl
  | [⟨⟨2, _⟩⟩] | [⟨⟨3, _⟩⟩] | [⟨⟨4, _⟩⟩] => .inr rfl

theorem taken_setPlatformState (tag : Byte) : ∀ args : List Byte, Taken tag (0x08 :: args)
  | [] | _ :: _ :: _ | [⟨⟨_ + 2, _⟩⟩] => .inl rfl
  | [⟨⟨0, _⟩⟩] | [⟨⟨1, _⟩⟩] => .inr rfl

theorem taken_clear (tag : Byte) : ∀ args : List Byte, Taken tag (0x0B :: args)
  | [] | _ :: _ :: _ | [⟨⟨_ + 4, _⟩⟩] => .inl rfl
  | [⟨⟨0, _⟩⟩] | [⟨⟨1, _⟩⟩] | [⟨⟨2, _⟩⟩] | [⟨⟨3, _⟩⟩] => .inr rfl

theorem taken_restartPort (tag : Byte) : ∀ args : List Byte, Taken tag (0x0C :: args)
  | [] | _ :: _ :: _ | [⟨⟨_ + 2, _⟩⟩] => .inl rfl
  | [⟨⟨0, _⟩⟩] | [⟨⟨1, _⟩⟩] => .inr rfl

/-- IDENTIFY and SOFT_RESET have no operands. -/
theorem taken_alone (tag : Byte) : ∀ args : List Byte, Taken tag (0x01 :: args) ∧ Taken tag (0x0E :: args)
  | [] => ⟨.inr rfl, .inr rfl⟩
  | _ :: _ => ⟨.inl rfl, .inl rfl⟩

/-- GET_STATUS, GET_PARAM, SET_ROTATION_LOCK and PORT_OFF have one operand, of any value. -/
theorem taken_operand (tag : Byte) : ∀ args : List Byte,
    Taken tag (0x02 :: args) ∧ Taken tag (0x04 :: args) ∧ Taken tag (0x09 :: args) ∧ Taken tag (0x0D :: args)
  | [] | _ :: _ :: _ => ⟨.inl rfl, .inl rfl, .inl rfl, .inl rfl⟩
  | [_] => ⟨.inr rfl, .inr rfl, .inr rfl, .inr rfl⟩

theorem taken_setLine (tag : Byte) : ∀ args : List Byte, Taken tag (0x0A :: args)
  | [] | [_] | _ :: _ :: _ :: _ => .inl rfl
  | [_, _] => .inr rfl

theorem taken (tag : Byte) : ∀ payload : List Byte, Taken tag payload
  | [] | ⟨⟨0, _⟩⟩ :: _ | ⟨⟨_ + 15, _⟩⟩ :: _ => .inl rfl
  | ⟨⟨1, _⟩⟩ :: args => (taken_alone tag args).1
  | ⟨⟨2, _⟩⟩ :: args => (taken_operand tag args).1
  | ⟨⟨3, _⟩⟩ :: args => taken_setParam tag args
  | ⟨⟨4, _⟩⟩ :: args => (taken_operand tag args).2.1
  | ⟨⟨5, _⟩⟩ :: args => taken_writeRows tag args
  | ⟨⟨6, _⟩⟩ :: args => taken_readRows tag args
  | ⟨⟨7, _⟩⟩ :: args => taken_commit tag args
  | ⟨⟨8, _⟩⟩ :: args => taken_setPlatformState tag args
  | ⟨⟨9, _⟩⟩ :: args => (taken_operand tag args).2.2.1
  | ⟨⟨10, _⟩⟩ :: args => taken_setLine tag args
  | ⟨⟨11, _⟩⟩ :: args => taken_clear tag args
  | ⟨⟨12, _⟩⟩ :: args => taken_restartPort tag args
  | ⟨⟨13, _⟩⟩ :: args => (taken_operand tag args).2.2.2
  | ⟨⟨14, _⟩⟩ :: args => (taken_alone tag args).2

theorem requestCommand_of_requestBytes {c : Instr} {tag : Byte} {payload : List Byte}
    (laid : requestBytes c = some (tag, payload)) : requestCommand tag payload = c := by
  cases c <;> simp only [requestBytes, Option.some.injEq, Prod.mk.injEq, reduceCtorEq] at laid
  all_goals obtain ⟨rfl, rfl⟩ := laid
  case setParam id value => exact congrArg (Instr.setParam _ id) (value_of_bytes value)
  all_goals rfl

/-- Settles O56: the layout of a request is taken back, and no other payload is taken as one. -/
theorem requestsDecoded : Obligations.RequestsDecoded :=
  ⟨fun _ _ _ laid => requestCommand_of_requestBytes laid,
    fun tag payload other => (taken tag payload).resolve_right (other _)⟩

end Sys2Proof.Machine

end

-- PROOFS: table rows read back as they are laid out, the layouts themselves, and the codes (11.7; O57).
section

namespace Sys2Proof.Machine

/-! ### Fields read back -/

@[simp] theorem readFlag_flag (b : Bool) : readFlag (flag b) = some b := by
  cases b <;> rfl

theorem readOptional_zero {α : Type} (value : Option α) : readOptional 0 value = some none := rfl

theorem readOptional_one {α : Type} (value : Option α) : readOptional 1 value = value.map some := rfl

/-- A number in range is read as it is. -/
theorem readRange_of_mem {lo hi v : Nat} (range : lo ≤ v ∧ v ≤ hi) : readRange lo hi v = some v := if_pos range

/-- An absent or present field of one byte reads back. -/
theorem optional_byte {α : Type} {code : α → Byte} {read : Byte → Option α} (free pos : Nat) {value : Option α}
    (reads : ∀ a ∈ value, read (code a) = some a) :
    ∃ p b, optional free pos 1 (value.map fun a => [code a]) = [p, b] ∧ readOptional p (read b) = some value := by
  cases value with
  | none => exact ⟨0, _, rfl, rfl⟩
  | some a => exact ⟨1, code a, rfl, by rw [readOptional_one, reads a rfl]; rfl⟩

/-- An absent or present field of two bytes reads back. -/
theorem optional_word {read : Nat → Option Nat} (free pos : Nat) {value : Option Nat}
    (reads : ∀ n ∈ value, n < 65536 ∧ read n = some n) :
    ∃ p lo hi, optional free pos 2 (value.map le16) = [p, lo, hi] ∧ readOptional p (read (word16 lo hi)) = some value := by
  cases value with
  | none => exact ⟨0, _, _, rfl, rfl⟩
  | some n =>
    obtain ⟨small, read_n⟩ := reads n rfl
    exact ⟨1, _, _, rfl, by rw [readOptional_one, word16_bytes small, read_n]; rfl⟩

/-- An absent or present hinge pair reads back. -/
theorem optional_hinge (free pos : Nat) {value : Option (Nat × Nat)} (bounds : ∀ h ∈ value, h.1 ≤ h.2 ∧ h.2 ≤ 5760) :
    ∃ p l0 l1 h0 h1, optional free pos 4 (value.map fun h => le16 h.1 ++ le16 h.2) = [p, l0, l1, h0, h1]
      ∧ readOptional p (readHingePair (word16 l0 l1) (word16 h0 h1)) = some value := by
  cases value with
  | none => exact ⟨0, _, _, _, _, rfl, rfl⟩
  | some h =>
    obtain ⟨ordered, top⟩ := bounds h rfl
    refine ⟨1, _, _, _, _, rfl, ?_⟩
    rw [readOptional_one, word16_bytes (by omega), word16_bytes (by omega), readHingePair, if_pos ⟨ordered, top⟩]
    rfl

/-! ### Enumerations read back (11.7) -/

@[simp] theorem readSource_code (s : Source) : readSource (byteOf s.code) = some s := by
  obtain ⟨axis, negate⟩ := s
  cases axis <;> cases negate <;> rfl

@[simp] theorem readEnum_posture (p : Posture) : readEnum postureList (byteOf p.code) = some p := by
  cases p <;> rfl

theorem readEnum_dockCondition (c : DockCondition) : readEnum [.attached, .notAttached] (byteOf c.code) = some c := by
  cases c <;> rfl

theorem readEnum_hall (asserted : Bool) : readEnum [true, false] (if asserted then 0 else 1) = some asserted := by
  cases asserted <;> rfl

theorem readEnum_face {f : BaseFace} (known : f ≠ .unknown) : readEnum [BaseFace.up, .down, .edge] (byteOf f.code) = some f := by
  cases f with
  | up | down | edge => rfl
  | unknown => exact absurd rfl known

@[simp] theorem readEnum_gate (g : Gate) : readEnum [Gate.pass, .block] (byteOf g.code) = some g := by
  cases g <;> rfl

@[simp] theorem readEnum_policy (p : Policy) : readEnum [Policy.free, .hold, .forceRot0] (byteOf p.code) = some p := by
  cases p <;> rfl

@[simp] theorem readEnum_allowance (a : Allowance) :
    readEnum [Allowance.allow, .reduced, .deny] (byteOf a.code) = some a := by
  cases a <;> rfl

@[simp] theorem readEnum_sleep (c : SleepClass) : readEnum [SleepClass.none, .idle, .closed] (byteOf c.code) = some c := by
  cases c <;> rfl

@[simp] theorem readEnum_class (c : FrameClass) : readEnum [FrameClass.high, .normal, .low] (byteOf c.code) = some c := by
  cases c <;> rfl

@[simp] theorem readEnum_stageKind (k : StageKind) :
    readEnum [StageKind.precharge, .bulk, .taper, .topup] (byteOf k.code) = some k := by
  cases k <;> rfl

@[simp] theorem readEnum_limitAction (a : LimitAction) : readEnum [LimitAction.next, .fault] (byteOf a.code) = some a := by
  cases a <;> rfl

@[simp] theorem readEnum_mode (m : LineMode) : readEnum [LineMode.direct, .triggered] (byteOf m.code) = some m := by
  cases m <;> rfl

@[simp] theorem readEnum_rearm (r : Rearm) : readEnum [Rearm.once, .every] (byteOf r.code) = some r := by
  cases r <;> rfl

/-! ### Rows read back (R13, R81, R106, R133, R157) -/

theorem readOffset_bytes {v : Int} (range : -2048 ≤ v ∧ v ≤ 2047) : ∃ lo hi, leInt16 v = [lo, hi] ∧ readOffset lo hi = some v := by
  obtain ⟨lo, hi, bytes, reads⟩ := leInt16_reads (v := v) (by simp [inSample]; omega)
  exact ⟨lo, hi, bytes, by rw [readOffset, reads, if_pos range]⟩

theorem readMount_bytes (i : Nat) {m : Mount} (axes : isPermutation m.srcX.axis m.srcY.axis m.srcZ.axis = true)
    (not_zero : m.identity ≠ 0x00) (not_ones : m.identity ≠ 0xFF)
    (range : ∀ o ∈ [m.offset.x, m.offset.y, m.offset.z], -2048 ≤ o ∧ o ≤ 2047) : readMount i m.bytes = some m := by
  obtain ⟨x0, x1, x, read_x⟩ := readOffset_bytes (range m.offset.x (by simp))
  obtain ⟨y0, y1, y, read_y⟩ := readOffset_bytes (range m.offset.y (by simp))
  obtain ⟨z0, z1, z, read_z⟩ := readOffset_bytes (range m.offset.z (by simp))
  rw [Mount.bytes, leVec, x, y, z]
  change readMount i [_, _, _, x0, x1, y0, y1, z0, z1, m.identity] = some m
  have identity : (isPermutation m.srcX.axis m.srcY.axis m.srcZ.axis && m.identity != 0x00 && m.identity != 0xFF) = true := by
    rw [axes, bne_iff_ne.mpr not_zero, bne_iff_ne.mpr not_ones]
    rfl
  simp only [readMount, readSource_code, read_x, read_y, read_z, Option.bind_eq_bind, Option.bind_some, if_pos identity]

theorem readPostureRow_bytes (free pos i : Nat) {r : PostureRow} (bounds : ∀ h ∈ r.hinge, h.1 ≤ h.2 ∧ h.2 ≤ 5760)
    (dwell : r.dwell ≤ 5000) (known : r.face ≠ some .unknown) : readPostureRow i (r.bytes free pos) = some r := by
  obtain ⟨hp, l0, l1, h0, h1, hinge, read_hinge⟩ := optional_hinge free (pos + 3) bounds
  obtain ⟨dp, dc, dock, read_dock⟩ := optional_byte (value := r.dock) free (pos + 9) fun c _ => readEnum_dockCondition c
  obtain ⟨fp, fc, front, read_front⟩ := optional_byte (value := r.front) free (pos + 11) fun a _ => readEnum_hall a
  obtain ⟨rp, rc, rear, read_rear⟩ := optional_byte (value := r.rear) free (pos + 13) fun a _ => readEnum_hall a
  obtain ⟨bp, bc, face, read_face⟩ := optional_byte (value := r.face) free (pos + 15) fun f is_f =>
    readEnum_face (f := f) fun unknown => known (unknown ▸ is_f)
  rw [PostureRow.bytes, hinge, dock, front, rear, face]
  change readPostureRow i [_, _, hp, l0, l1, h0, h1, _, dp, dc, fp, fc, rp, rc, bp, bc, _, _, _, _, _, _, _] = some r
  simp [readPostureRow, read_hinge, read_dock, read_front, read_rear, read_face, word16_bytes (by omega : r.dwell < 65536),
    readRange_of_mem ⟨Nat.zero_le _, dwell⟩]

/-- The ranges of an action's parameters (10.2.1). -/
def RouteAction.inRange : RouteAction → Prop
  | .decimate n => 2 ≤ n ∧ n ≤ 64
  | .changeOnly d m => d ≤ 4095 ∧ 1 ≤ m ∧ m ≤ 255
  | .batch b f => 2 ≤ b ∧ b ≤ 8 ∧ 1 ≤ f ∧ f ≤ 1000
  | _ => True

/-- An action in range is read back from its code and parameters, each of which fits in two bytes. -/
theorem readAction_params {a : RouteAction} (range : a.inRange) : readAction (byteOf a.code) a.params.1 a.params.2 = some a
    ∧ (∀ n ∈ a.params.1, n < 65536) ∧ ∀ n ∈ a.params.2, n < 65536 := by
  cases a with
  | pass | drop => exact ⟨rfl, by simp [RouteAction.params], by simp [RouteAction.params]⟩
  | decimate n =>
    refine ⟨congrArg (Option.map RouteAction.decimate) (readRange_of_mem range), ?_, by simp [RouteAction.params]⟩
    simp only [RouteAction.inRange] at range
    simp [RouteAction.params]
    omega
  | changeOnly d m =>
    obtain ⟨d_max, m_range⟩ := range
    refine ⟨?_, ?_, ?_⟩
    · change (readRange 0 4095 d >>= fun d => readRange 1 255 m >>= fun m => some (RouteAction.changeOnly d m)) = _
      rw [readRange_of_mem ⟨Nat.zero_le _, d_max⟩, readRange_of_mem m_range]
      rfl
    all_goals simp [RouteAction.params]
    all_goals omega
  | batch b f =>
    obtain ⟨b_min, b_max, f_range⟩ := range
    refine ⟨?_, ?_, ?_⟩
    · change (readRange 2 8 b >>= fun b => readRange 1 1000 f >>= fun f => some (RouteAction.batch b f)) = _
      rw [readRange_of_mem ⟨b_min, b_max⟩, readRange_of_mem f_range]
      rfl
    all_goals simp [RouteAction.params]
    all_goals omega

theorem readColumn_bytes (free pos : Nat) {st : Nat} {c : RouteColumn} (allowed : actionAllowed st c.action = true)
    (range : c.action.inRange) : ∃ a cls p p0 p1 q q0 q1, c.bytes free pos = [a, cls, p, p0, p1, q, q0, q1]
      ∧ readColumn st a cls p p0 p1 q q0 q1 = some c := by
  obtain ⟨reads, fits_first, fits_second⟩ := readAction_params range
  obtain ⟨p, p0, p1, first, read_first⟩ := optional_word (read := some) free (pos + 3) fun n is_n => ⟨fits_first n is_n, rfl⟩
  obtain ⟨q, q0, q1, second, read_second⟩ := optional_word (read := some) free (pos + 6) fun n is_n => ⟨fits_second n is_n, rfl⟩
  refine ⟨byteOf c.action.code, byteOf c.cls.code, p, p0, p1, q, q0, q1, by rw [RouteColumn.bytes, first, second]; rfl, ?_⟩
  simp [readColumn, read_first, read_second, reads, allowed]

theorem readRouteEntry_bytes (free pos : Nat) {st : Nat} {e : RouteEntry}
    (fits : ∀ c ∈ [e.awake, e.asleep], actionAllowed st c.action = true ∧ c.action.inRange) :
    readRouteEntry st (e.bytes free pos) = some e := by
  obtain ⟨allowed, range⟩ := fits e.awake (by simp)
  obtain ⟨allowed', range'⟩ := fits e.asleep (by simp)
  obtain ⟨a, c, p, p0, p1, q, q0, q1, awake, read_awake⟩ := readColumn_bytes free pos allowed range
  obtain ⟨a', c', p', p0', p1', q', q0', q1', asleep, read_asleep⟩ := readColumn_bytes free (pos + 8) allowed' range'
  rw [RouteEntry.bytes, awake, asleep]
  change readRouteEntry st [a, c, p, p0, p1, q, q0, q1, a', c', p', p0', p1', q', q0', q1'] = some e
  simp [readRouteEntry, read_awake, read_asleep]

theorem readProfileRow_bytes (free pos : Nat) {i : Nat} {r : ProfileRow} (target : 10 ≤ r.target ∧ r.target ≤ 1500)
    (limit : 1 ≤ r.limit ∧ r.limit ≤ 65535) (exit : ∀ e ∈ r.exitBelow, 5 ≤ e ∧ e ≤ 1000) (first : i = 0 → r.inUse = true) :
    readProfileRow i (r.bytes free pos) = some r := by
  obtain ⟨ep, e0, e1, below, read_below⟩ := optional_word (read := readRange 5 1000) free (pos + 8) fun e is_e =>
    ⟨by have := exit e is_e; omega, readRange_of_mem (exit e is_e)⟩
  have used : ¬ (i = 0 ∧ r.inUse = false) := fun ⟨zero, off⟩ => by simp [first zero] at off
  rw [ProfileRow.bytes, below]
  change readProfileRow i [_, _, _, _, _, _, _, ep, e0, e1] = some r
  simp only [readProfileRow, readFlag_flag, readEnum_stageKind, readEnum_limitAction, read_below, Option.bind_eq_bind,
    Option.bind_some, word16_bytes (by omega : r.target < 65536), word16_bytes (by omega : r.limit < 65536),
    readRange_of_mem target, readRange_of_mem limit, if_neg used]

theorem readTrigger_code (t : Trigger) : readTrigger (byteOf t.code) t.posture = some t := by
  cases t <;> rfl

theorem readActionLine_bytes (free pos i : Nat) (l : ActionLine) :
    readActionLine i (l.bytes free pos) = some { l with armed := l.mode = .triggered } := by
  obtain ⟨p, b, posture, read_posture⟩ := optional_byte (value := l.trigger.posture) free (pos + 6) fun p _ => readEnum_posture p
  rw [ActionLine.bytes, posture]
  change readActionLine i [_, _, _, _, _, p, b, _, _] = _
  have armed : (l.mode == .triggered) = decide (l.mode = .triggered) := by cases l.mode <;> rfl
  simp [readActionLine, read_posture, readTrigger_code, armed]

/-! ### Layouts -/

theorem le32_eq (n : Nat) : le32 n = [byteOf n, byteOf (n / 256), byteOf (n / 65536), byteOf (n / 16777216)] := by
  rw [le32, le16, le16, Nat.div_div_eq_div_mul]
  rfl

theorem leInt16_eq (v : Int) : leInt16 v = le16 (v % 2 ^ 16).toNat := by
  rw [leInt16, BitVec.toNat_ofInt]
  rfl

theorem leInt32_eq (v : Int) : leInt32 v = le32 (v % 2 ^ 32).toNat := by
  rw [leInt32, BitVec.toNat_ofInt]
  rfl

/-- The byte of a hall condition, as a list. -/
theorem hall_bytes : (fun asserted : Bool => [if asserted then (0 : Byte) else 1]) = fun asserted => if asserted then [0] else [1] := by
  funext asserted
  cases asserted <;> rfl

/-- A presence byte and its value at a place: 1 and the value's bytes, or 0 and bytes of no stated value (log 7). -/
def optionalAt (free place n : Nat) (value : Option (List Byte)) : List Byte := match value with
  | some bytes => 1 :: bytes
  | none => 0 :: (List.range n).map fun i => Config.freeByte free (place + i)

theorem optional_eq (free place n : Nat) (value : Option (List Byte)) :
    optional free place n value = optionalAt free place n value := by
  cases value <;> rfl

/-- Settles O57, part for part: a row is read back by reading back each of its fields, and a layout or a code is what its
definition says, once an absent field is told from a present one. -/
theorem rowsReadBack : Obligations.RowsReadBack := by
  refine ⟨fun i m axes zero ones range => readMount_bytes i axes zero ones range,
    fun free pos i r bounds dwell known => readPostureRow_bytes free pos i bounds dwell known,
    fun free pos st e fits => readRouteEntry_bytes free pos fun c is_c => ?_,
    fun free pos i r t0 t1 l0 l1 exit first => readProfileRow_bytes free pos ⟨t0, t1⟩ ⟨l0, l1⟩ exit first,
    readActionLine_bytes, fun free pos => ⟨fun m => ?_, fun r => ?_, fun e => ?_, fun r => ?_, fun l => ?_⟩,
    ⟨fun n => ⟨rfl, rfl, le32_eq n⟩, fun v => ⟨leInt16_eq v, leInt32_eq v⟩, rfl, rfl, rfl, fun _ => rfl, rfl, fun _ => rfl,
      fun _ _ _ _ => ⟨rfl, rfl, rfl⟩⟩, ?_⟩
  · obtain ⟨allowed, range⟩ := fits c is_c
    exact ⟨allowed, by cases action : c.action <;> rw [action] at range <;> exact range⟩
  · rfl
  · rw [PostureRow.bytes, hall_bytes]
    simp only [optional_eq]
    rfl
  · obtain ⟨⟨awake, _⟩, ⟨asleep, _⟩⟩ := e
    exact congrArg₂ (· ++ ·) (by cases awake <;> rfl) (by cases asleep <;> rfl)
  · rw [ProfileRow.bytes, optional_eq]
    rfl
  · obtain ⟨invert, mode, level, staged, trigger, rearm, armed⟩ := l
    cases trigger <;> rfl
  · exact ⟨rfl, rfl, rfl, rfl, rfl, rfl, rfl, rfl, rfl, rfl, rfl, rfl, rfl, rfl, rfl, rfl, rfl, rfl, rfl, fun _ _ => rfl,
      rfl, rfl, rfl, rfl, rfl, rfl, rfl, rfl, rfl, rfl, rfl, rfl, fun _ _ _ _ => rfl⟩

end Sys2Proof.Machine

end

-- PROOFS: the structural faults of table rows (11.7.3; O58).
section

namespace Sys2Proof.Machine

/-! ### When a field is read -/

/-- A read followed by another succeeds when both do. -/
theorem isSome_bind_iff {α β : Type} {x : Option α} {f : α → Option β} {first second : Prop} (reads : x.isSome = true ↔ first)
    (goes_on : ∀ a, x = some a → ((f a).isSome = true ↔ second)) : (x >>= f).isSome = true ↔ first ∧ second := by
  cases x with
  | none => exact iff_of_false Bool.false_ne_true fun both => Bool.false_ne_true (reads.mpr both.1)
  | some a => exact (goes_on a rfl).trans (and_iff_right (reads.mp rfl)).symm

theorem isSome_ite_iff {α : Type} {c : Prop} [Decidable c] (a : α) : (if c then some a else none).isSome = true ↔ c := by
  split <;> simp [*]

theorem readFlag_isSome : ∀ b : Byte, (readFlag b).isSome = true ↔ b.toNat < 2 := by decide

theorem readEnum_isSome {α : Type} (values : List α) (b : Byte) : (readEnum values b).isSome = true ↔ b.toNat < values.length := by
  simp [readEnum]

theorem readRange_isSome (lo hi v : Nat) : (readRange lo hi v).isSome = true ↔ lo ≤ v ∧ v ≤ hi := isSome_ite_iff v

theorem readRange_eq_some_iff {lo hi v a : Nat} : readRange lo hi v = some a ↔ v = a ∧ lo ≤ a ∧ a ≤ hi := by
  constructor
  · intro reads
    have range := (readRange_isSome lo hi v).mp (Option.isSome_of_eq_some reads)
    obtain rfl := Option.some.inj ((readRange_of_mem range).symm.trans reads)
    exact ⟨rfl, range⟩
  · rintro ⟨rfl, range⟩
    exact readRange_of_mem range

theorem readHingePair_isSome (low high : Nat) : (readHingePair low high).isSome = true ↔ low ≤ high ∧ high ≤ 5760 :=
  isSome_ite_iff (low, high)

/-- A presence byte is 0, 1 or a fault. -/
theorem presence_cases (b : Byte) : b = 0 ∨ b = 1 ∨ b ≠ 0 ∧ b ≠ 1 := by tauto

theorem readOptional_beyond {α : Type} {presence : Byte} (beyond : presence ≠ 0 ∧ presence ≠ 1) (value : Option α) :
    readOptional presence value = none := by
  rw [readOptional, readFlag, if_neg beyond.1, if_neg beyond.2]

theorem readOptional_isSome {α : Type} {presence : Byte} {value : Option α} {fits : Prop} (reads : value.isSome = true ↔ fits) :
    (readOptional presence value).isSome = true ↔ presence = 0 ∨ presence = 1 ∧ fits := by
  rcases presence_cases presence with rfl | rfl | beyond
  · exact iff_of_true rfl (.inl rfl)
  · rw [readOptional_one, Option.isSome_map, reads]
    simp
  · rw [readOptional_beyond beyond]
    exact iff_of_false (by simp) fun read => read.elim beyond.1 fun present => beyond.2 present.1

theorem readOptional_eq_none {α : Type} {presence : Byte} {value : Option α} :
    readOptional presence value = some none ↔ presence = 0 := by
  rcases presence_cases presence with rfl | rfl | beyond
  · exact iff_of_true rfl rfl
  · rw [readOptional_one]
    simp
  · rw [readOptional_beyond beyond]
    exact iff_of_false (by simp) beyond.1

theorem readOptional_eq_some {α : Type} {presence : Byte} {value : Option α} {a : α} :
    readOptional presence value = some (some a) ↔ presence = 1 ∧ value = some a := by
  rcases presence_cases presence with rfl | rfl | beyond
  · rw [readOptional_zero]
    simp
  · rw [readOptional_one]
    simp
  · rw [readOptional_beyond beyond]
    exact iff_of_false (by simp) fun present => beyond.2 present.1

/-! ### Mount records (R13, R39) -/

/-- A signed two-byte value, in two's complement. -/
theorem signed16_eq (lo hi : Byte) : signed16 lo hi =
    if hi.toNat < 128 then (word16 lo hi : Int) else (word16 lo hi : Int) - 65536 := by
  have low := lo.isLt
  have high := hi.isLt
  have small : word16 lo hi < 65536 := by unfold word16; omega
  have whole : (BitVec.ofNat 16 (word16 lo hi)).toNat = word16 lo hi := by
    rw [BitVec.toNat_ofNat]
    exact Nat.mod_eq_of_lt small
  rw [signed16, BitVec.toInt_eq_toNat_cond, whole]
  have half : 2 * word16 lo hi < 2 ^ 16 ↔ hi.toNat < 128 := by unfold word16; omega
  exact if_congr half rfl rfl

theorem readOffset_isSome (lo hi : Byte) :
    (readOffset lo hi).isSome = true ↔ -2048 ≤ signed16 lo hi ∧ signed16 lo hi ≤ 2047 := isSome_ite_iff _

/-- The axis of number `n`. -/
def axisOf (n : Nat) : Axis := if n = 0 then .x else if n = 1 then .y else .z

/-- A source byte names its axis by its half. -/
theorem axis_of_readSource {b : Byte} {a : Source} (reads : readSource b = some a) :
    a.axis = axisOf (b.toNat / 2) ∧ b.toNat / 2 < 3 := by
  revert b
  obtain ⟨axis, negate⟩ := a
  cases axis <;> cases negate <;> decide

theorem axisOf_ne : ∀ m < 3, ∀ n < 3, axisOf m ≠ axisOf n ↔ m ≠ n := by decide

theorem readMount_isSome (i : Nat) (sx sy sz x0 x1 y0 y1 z0 z1 ident : Byte) :
    (readMount i [sx, sy, sz, x0, x1, y0, y1, z0, z1, ident]).isSome = true ↔
      sx.toNat < 6 ∧ sy.toNat < 6 ∧ sz.toNat < 6
      ∧ (-2048 ≤ signed16 x0 x1 ∧ signed16 x0 x1 ≤ 2047) ∧ (-2048 ≤ signed16 y0 y1 ∧ signed16 y0 y1 ≤ 2047)
      ∧ (-2048 ≤ signed16 z0 z1 ∧ signed16 z0 z1 ≤ 2047)
      ∧ (sx.toNat / 2 ≠ sy.toNat / 2 ∧ sy.toNat / 2 ≠ sz.toNat / 2 ∧ sx.toNat / 2 ≠ sz.toNat / 2)
      ∧ ident ≠ 0x00 ∧ ident ≠ 0xFF := by
  refine isSome_bind_iff (readEnum_isSome _ sx) fun a read_a => isSome_bind_iff (readEnum_isSome _ sy) fun b read_b =>
    isSome_bind_iff (readEnum_isSome _ sz) fun c read_c => isSome_bind_iff (readOffset_isSome x0 x1) fun x _ =>
    isSome_bind_iff (readOffset_isSome y0 y1) fun y _ => isSome_bind_iff (readOffset_isSome z0 z1) fun z _ =>
    (isSome_ite_iff _).trans ?_
  obtain ⟨axis_a, small_a⟩ := axis_of_readSource read_a
  obtain ⟨axis_b, small_b⟩ := axis_of_readSource read_b
  obtain ⟨axis_c, small_c⟩ := axis_of_readSource read_c
  rw [isPermutation, axis_a, axis_b, axis_c, Bool.and_eq_true, Bool.and_eq_true, Bool.and_eq_true, Bool.and_eq_true,
    bne_iff_ne, bne_iff_ne, bne_iff_ne, bne_iff_ne, bne_iff_ne, axisOf_ne _ small_a _ small_b, axisOf_ne _ small_b _ small_c,
    axisOf_ne _ small_a _ small_c]
  tauto

/-! ### Posture rows (R81) -/

theorem readPostureRow_isSome (i : Nat)
    (use post hp l0 l1 h0 h1 good dp dc fp fc rp rc bp bc d0 d1 kg pg rot al sl : Byte) :
    (readPostureRow i
      [use, post, hp, l0, l1, h0, h1, good, dp, dc, fp, fc, rp, rc, bp, bc, d0, d1, kg, pg, rot, al, sl]).isSome = true ↔
      use.toNat < 2 ∧ post.toNat < 7
      ∧ (hp = 0 ∨ hp = 1 ∧ word16 l0 l1 ≤ word16 h0 h1 ∧ word16 h0 h1 ≤ 5760) ∧ good.toNat < 2
      ∧ (dp = 0 ∨ dp = 1 ∧ dc.toNat < 2) ∧ (fp = 0 ∨ fp = 1 ∧ fc.toNat < 2) ∧ (rp = 0 ∨ rp = 1 ∧ rc.toNat < 2)
      ∧ (bp = 0 ∨ bp = 1 ∧ bc.toNat < 3) ∧ (0 ≤ word16 d0 d1 ∧ word16 d0 d1 ≤ 5000) ∧ kg.toNat < 2 ∧ pg.toNat < 2
      ∧ rot.toNat < 3 ∧ al.toNat < 3 ∧ sl.toNat < 3 ∧ True :=
  isSome_bind_iff (readFlag_isSome use) fun _ _ => isSome_bind_iff (readEnum_isSome _ post) fun _ _ =>
  isSome_bind_iff (readOptional_isSome (readHingePair_isSome _ _)) fun _ _ => isSome_bind_iff (readFlag_isSome good) fun _ _ =>
  isSome_bind_iff (readOptional_isSome (readEnum_isSome _ dc)) fun _ _ =>
  isSome_bind_iff (readOptional_isSome (readEnum_isSome _ fc)) fun _ _ =>
  isSome_bind_iff (readOptional_isSome (readEnum_isSome _ rc)) fun _ _ =>
  isSome_bind_iff (readOptional_isSome (readEnum_isSome _ bc)) fun _ _ =>
  isSome_bind_iff (readRange_isSome 0 5000 _) fun _ _ => isSome_bind_iff (readEnum_isSome _ kg) fun _ _ =>
  isSome_bind_iff (readEnum_isSome _ pg) fun _ _ => isSome_bind_iff (readEnum_isSome _ rot) fun _ _ =>
  isSome_bind_iff (readEnum_isSome _ al) fun _ _ => isSome_bind_iff (readEnum_isSome _ sl) fun _ _ => iff_of_true rfl trivial

/-! ### Route entries (R157) -/

/-- A byte as the one of its value. -/
theorem byte_of_value {b : Byte} {n : Nat} (value : b.toNat = n) : b = byteOf n := by
  rw [byteOf, ← value, BitVec.ofNat_toNat, BitVec.setWidth_eq]

/-- An action is read from its own code and its own parameters in range, and from nothing else. -/
theorem readAction_eq_some_iff {code : Byte} {first second : Option Nat} {act : RouteAction} :
    readAction code first second = some act
      ↔ code.toNat = act.code ∧ first = act.params.1 ∧ second = act.params.2 ∧ act.inRange := by
  constructor
  · intro reads
    unfold readAction at reads
    split at reads
    case h_1 is_code | h_2 is_code =>
      obtain rfl := Option.some.inj reads
      exact ⟨is_code, rfl, rfl, trivial⟩
    case h_3 is_code =>
      obtain ⟨n, read_n, rfl⟩ := Option.map_eq_some_iff.mp reads
      obtain ⟨rfl, range⟩ := readRange_eq_some_iff.mp read_n
      exact ⟨is_code, rfl, rfl, range⟩
    case h_4 is_code | h_5 is_code =>
      obtain ⟨_, read_first, reads⟩ := Option.bind_eq_some_iff.mp reads
      obtain ⟨_, read_second, reads⟩ := Option.bind_eq_some_iff.mp reads
      obtain ⟨rfl, lo, hi⟩ := readRange_eq_some_iff.mp read_first
      obtain ⟨rfl, range⟩ := readRange_eq_some_iff.mp read_second
      obtain rfl := Option.some.inj reads
      exact ⟨is_code, rfl, rfl, by simp only [RouteAction.inRange]; omega⟩
    case h_6 => cases reads
  · rintro ⟨is_code, rfl, rfl, range⟩
    rw [byte_of_value is_code]
    exact (readAction_params range).1

/-- A column is read exactly when it holds an action, with its parameters in range, that its stream allows. -/
theorem readColumn_isSome {st : Nat} {a c p p0 p1 q q0 q1 : Byte} : (readColumn st a c p p0 p1 q q0 q1).isSome = true ↔
    c.toNat < 3 ∧ ∃ act : RouteAction, a.toNat = act.code ∧ act.inRange ∧ actionAllowed st act = true
      ∧ readOptional p (some (word16 p0 p1)) = some act.params.1 ∧ readOptional q (some (word16 q0 q1)) = some act.params.2 := by
  constructor
  · intro reads
    obtain ⟨col, reads⟩ := Option.isSome_iff_exists.mp reads
    obtain ⟨first, read_first, rest⟩ := Option.bind_eq_some_iff.mp reads
    obtain ⟨second, read_second, rest⟩ := Option.bind_eq_some_iff.mp rest
    obtain ⟨act, read_act, rest⟩ := Option.bind_eq_some_iff.mp rest
    obtain ⟨cls, read_cls, ends⟩ := Option.bind_eq_some_iff.mp rest
    obtain ⟨is_code, rfl, rfl, range⟩ := readAction_eq_some_iff.mp read_act
    exact ⟨(readEnum_isSome _ c).mp (Option.isSome_of_eq_some read_cls), act, is_code, range,
      (isSome_ite_iff _).mp (Option.isSome_of_eq_some ends), read_first, read_second⟩
  · rintro ⟨cls, act, is_code, range, allowed, read_first, read_second⟩
    have read_act := readAction_eq_some_iff.mpr ⟨is_code, rfl, rfl, range⟩
    obtain ⟨_, read_cls⟩ := Option.isSome_iff_exists.mp ((readEnum_isSome [FrameClass.high, .normal, .low] c).mpr cls)
    simp [readColumn, read_first, read_second, read_act, read_cls, allowed]

/-- The rows of 10.2.1's table of actions, each with its parameters' ranges and its streams. -/
def columnFits (st : Nat) (a c p p0 p1 q q0 q1 : Byte) : Prop := c.toNat < 3 ∧ match a.toNat with
  | 0 => p = 0 ∧ q = 0
  | 1 => p = 0 ∧ q = 0
  | 2 => p = 1 ∧ q = 0 ∧ 2 ≤ word16 p0 p1 ∧ word16 p0 p1 ≤ 64 ∧ st ≠ 4
  | 3 => p = 1 ∧ q = 1 ∧ word16 p0 p1 ≤ 4095 ∧ 1 ≤ word16 q0 q1 ∧ word16 q0 q1 ≤ 255 ∧ st ∈ [0, 1, 2, 7, 10]
  | 4 => p = 1 ∧ q = 1 ∧ 2 ≤ word16 p0 p1 ∧ word16 p0 p1 ≤ 8 ∧ 1 ≤ word16 q0 q1 ∧ word16 q0 q1 ≤ 1000 ∧ st ∈ [0, 1, 10]
  | _ => False

theorem readColumn_isSome_iff (st : Nat) (a c p p0 p1 q q0 q1 : Byte) :
    (readColumn st a c p p0 p1 q q0 q1).isSome = true ↔ columnFits st a c p p0 p1 q q0 q1 := by
  refine readColumn_isSome.trans (and_congr_right fun _ => ?_)
  constructor
  · rintro ⟨act, is_code, range, allowed, read_first, read_second⟩
    rw [is_code]
    cases act with
    | pass | drop => exact ⟨readOptional_eq_none.mp read_first, readOptional_eq_none.mp read_second⟩
    | decimate n =>
      obtain ⟨one, rfl⟩ : p = 1 ∧ word16 p0 p1 = n := by simpa using readOptional_eq_some.mp read_first
      exact ⟨one, readOptional_eq_none.mp read_second, range.1, range.2, bne_iff_ne.mp allowed⟩
    | changeOnly d m =>
      obtain ⟨one, rfl⟩ : p = 1 ∧ word16 p0 p1 = d := by simpa using readOptional_eq_some.mp read_first
      obtain ⟨one', rfl⟩ : q = 1 ∧ word16 q0 q1 = m := by simpa using readOptional_eq_some.mp read_second
      exact ⟨one, one', range.1, range.2.1, range.2.2, List.contains_iff_mem.mp allowed⟩
    | batch b f =>
      obtain ⟨one, rfl⟩ : p = 1 ∧ word16 p0 p1 = b := by simpa using readOptional_eq_some.mp read_first
      obtain ⟨one', rfl⟩ : q = 1 ∧ word16 q0 q1 = f := by simpa using readOptional_eq_some.mp read_second
      exact ⟨one, one', range.1, range.2.1, range.2.2.1, range.2.2.2, List.contains_iff_mem.mp allowed⟩
  · split
    case h_1 is_code =>
      rintro ⟨rfl, rfl⟩
      exact ⟨.pass, is_code, trivial, rfl, rfl, rfl⟩
    case h_2 is_code =>
      rintro ⟨rfl, rfl⟩
      exact ⟨.drop, is_code, trivial, rfl, rfl, rfl⟩
    case h_3 is_code =>
      rintro ⟨rfl, rfl, lo, hi, stream⟩
      exact ⟨.decimate _, is_code, ⟨lo, hi⟩, bne_iff_ne.mpr stream, rfl, rfl⟩
    case h_4 is_code =>
      rintro ⟨rfl, rfl, hi, lo', hi', stream⟩
      exact ⟨.changeOnly _ _, is_code, ⟨hi, lo', hi'⟩, List.contains_iff_mem.mpr stream, rfl, rfl⟩
    case h_5 is_code =>
      rintro ⟨rfl, rfl, lo, hi, lo', hi', stream⟩
      exact ⟨.batch _ _, is_code, ⟨lo, hi, lo', hi'⟩, List.contains_iff_mem.mpr stream, rfl, rfl⟩
    case h_6 => exact False.elim

theorem readRouteEntry_isSome (st : Nat) (a c p p0 p1 q q0 q1 a' c' p' p0' p1' q' q0' q1' : Byte) :
    (readRouteEntry st [a, c, p, p0, p1, q, q0, q1, a', c', p', p0', p1', q', q0', q1']).isSome = true ↔
      columnFits st a c p p0 p1 q q0 q1 ∧ columnFits st a' c' p' p0' p1' q' q0' q1' ∧ True :=
  isSome_bind_iff (readColumn_isSome_iff ..) fun _ _ => isSome_bind_iff (readColumn_isSome_iff ..) fun _ _ =>
    iff_of_true rfl trivial

/-! ### Profile rows (R133) and action lines (R106) -/

/-- A flag that is read off is 0, and on is 1. -/
theorem eq_one_iff_of_readFlag {b : Byte} {value : Bool} (reads : readFlag b = some value) : b = 1 ↔ value = true := by
  revert b
  cases value <;> decide

theorem readProfileRow_isSome (i : Nat) (use kind t0 t1 l0 l1 act ep e0 e1 : Byte) :
    (readProfileRow i [use, kind, t0, t1, l0, l1, act, ep, e0, e1]).isSome = true ↔
      use.toNat < 2 ∧ kind.toNat < 4 ∧ (10 ≤ word16 t0 t1 ∧ word16 t0 t1 ≤ 1500)
      ∧ (1 ≤ word16 l0 l1 ∧ word16 l0 l1 ≤ 65535) ∧ act.toNat < 2
      ∧ (ep = 0 ∨ ep = 1 ∧ 5 ≤ word16 e0 e1 ∧ word16 e0 e1 ≤ 1000) ∧ (i = 0 → use = 1) := by
  refine isSome_bind_iff (readFlag_isSome use) fun inUse read_use => isSome_bind_iff (readEnum_isSome _ kind) fun _ _ =>
    isSome_bind_iff (readRange_isSome 10 1500 _) fun _ _ => isSome_bind_iff (readRange_isSome 1 65535 _) fun _ _ =>
    isSome_bind_iff (readEnum_isSome _ act) fun _ _ =>
    isSome_bind_iff (readOptional_isSome (readRange_isSome 5 1000 _)) fun _ _ => ?_
  rw [eq_one_iff_of_readFlag read_use]
  split
  case isTrue off => simp [off]
  case isFalse on => exact iff_of_true rfl fun zero => by simpa [zero] using on

theorem readTrigger_none : ∀ kind : Byte, (readTrigger kind none).isSome = true ↔ 2 ≤ kind.toNat ∧ kind.toNat < 8 := by decide

theorem readTrigger_some (p : Posture) : ∀ kind : Byte, (readTrigger kind (some p)).isSome = true ↔ kind.toNat < 2 := by
  cases p <;> decide

/-- A posture byte stands for the two posture kinds alone. -/
theorem readTrigger_isSome {kind present : Byte} {value posture : Option Posture}
    (reads : readOptional present value = some posture) :
    (readTrigger kind posture).isSome = true ↔
      present = 1 ∧ kind.toNat < 2 ∨ present = 0 ∧ 2 ≤ kind.toNat ∧ kind.toNat < 8 := by
  cases posture with
  | none => rw [readOptional_eq_none.mp reads, readTrigger_none]; simp
  | some p => rw [(readOptional_eq_some.mp reads).1, readTrigger_some]; simp

theorem readActionLine_isSome (i : Nat) (inv mode level staged kind present post rearm armed : Byte) :
    (readActionLine i [inv, mode, level, staged, kind, present, post, rearm, armed]).isSome = true ↔
      inv.toNat < 2 ∧ mode.toNat < 2 ∧ level.toNat < 2 ∧ staged.toNat < 2 ∧ (present = 0 ∨ present = 1 ∧ post.toNat < 7)
      ∧ (present = 1 ∧ kind.toNat < 2 ∨ present = 0 ∧ 2 ≤ kind.toNat ∧ kind.toNat < 8) ∧ rearm.toNat < 2 ∧ True :=
  isSome_bind_iff (readFlag_isSome inv) fun _ _ => isSome_bind_iff (readEnum_isSome _ mode) fun _ _ =>
  isSome_bind_iff (readFlag_isSome level) fun _ _ => isSome_bind_iff (readFlag_isSome staged) fun _ _ =>
  isSome_bind_iff (readOptional_isSome (readEnum_isSome _ post)) fun _ read_posture =>
  isSome_bind_iff (readTrigger_isSome read_posture) fun _ _ => isSome_bind_iff (readEnum_isSome _ rearm) fun _ _ =>
  iff_of_true rfl trivial

/-! ### Rows of another length -/

theorem readMount_of_length (i : Nat) {bs : List Byte} (length : bs.length ≠ 10) : readMount i bs = none := by
  unfold readMount
  split
  · exact absurd rfl length
  · rfl

theorem readProfileRow_of_length (i : Nat) {bs : List Byte} (length : bs.length ≠ 10) : readProfileRow i bs = none := by
  unfold readProfileRow
  split
  · exact absurd rfl length
  · rfl

theorem readPostureRow_of_length (i : Nat) {bs : List Byte} (length : bs.length ≠ 23) : readPostureRow i bs = none := by
  unfold readPostureRow
  split
  · exact absurd rfl length
  · rfl

theorem readRouteEntry_of_length (st : Nat) {bs : List Byte} (length : bs.length ≠ 16) : readRouteEntry st bs = none := by
  unfold readRouteEntry
  split
  · exact absurd rfl length
  · rfl

theorem readActionLine_of_length (i : Nat) {bs : List Byte} (length : bs.length ≠ 9) : readActionLine i bs = none := by
  unfold readActionLine
  split
  · exact absurd rfl length
  · rfl

theorem word16_lt (lo hi : Byte) : word16 lo hi ≤ 65535 := by
  have low := lo.isLt
  have high := hi.isLt
  unfold word16
  omega

/-- Settles O58: each kind of row is read exactly when each of its fields is, in turn. -/
theorem rowFaults : Obligations.RowFaults := by
  unfold Obligations.RowFaults
  intro word optional
  refine ⟨fun i sx sy sz x0 x1 y0 y1 z0 z1 ident => ?_, fun i use post hp l0 l1 h0 h1 good dp dc fp fc rp rc bp bc d0 d1 kg pg
    rot al sl => ?_, fun st a c p p0 p1 q q0 q1 a' c' p' p0' p1' q' q0' q1' => ?_,
    fun i use kind t0 t1 l0 l1 act ep e0 e1 => ?_, fun i inv mode level staged kind present post rearm armed => ?_,
    fun i bs => ⟨fun length => ⟨readMount_of_length i length, readProfileRow_of_length i length⟩,
      readPostureRow_of_length i, readRouteEntry_of_length i, readActionLine_of_length i⟩⟩
  · have mounts := readMount_isSome i sx sy sz x0 x1 y0 y1 z0 z1 ident
    rw [signed16_eq, signed16_eq, signed16_eq] at mounts
    exact mounts.trans ⟨fun ⟨a, b, c, x, y, z, ⟨ab, bc, ac⟩, zero, ones⟩ => ⟨a, b, c, ab, bc, ac, x, y, z, zero, ones⟩,
      fun ⟨a, b, c, ab, bc, ac, x, y, z, zero, ones⟩ => ⟨a, b, c, x, y, z, ⟨ab, bc, ac⟩, zero, ones⟩⟩
  · refine (readPostureRow_isSome ..).trans ?_
    simp only [Nat.zero_le, true_and, and_true]
    rfl
  · exact (readRouteEntry_isSome ..).trans (by rw [and_true]; rfl)
  · refine (readProfileRow_isSome ..).trans ?_
    simp only [word16_lt, and_true, and_assoc]
    rfl
  · refine (readActionLine_isSome ..).trans ?_
    have one_value : ¬ (present = 0 ∧ present = 1) := by rintro ⟨rfl, one⟩; cases one
    tauto

end Sys2Proof.Machine

end

-- PROOFS: WRITE_ROWS checks its rows whole, and writes all of them or none (0.6, 11.4; O55).
section

namespace Sys2Proof.Machine

/-! ### The checks (R176, R179) -/

/-- The bytes of row `i`. -/
theorem getElem?_splitRows (size : Nat) {n i : Nat} (below : i < n) (bs : List Byte) :
    (splitRows size n bs)[i]? = some ((bs.drop (i * size)).take size) := by
  induction n generalizing i bs with
  | zero => omega
  | succ n ih =>
    cases i with
    | zero => simp [splitRows]
    | succ i =>
      rw [splitRows, List.getElem?_cons_succ, ih (by omega), List.drop_drop, Nat.succ_mul, Nat.add_comm]

/-- What is read of row `i`, from table index `start` on. -/
def rowAt {α : Type} (read : Nat → List Byte → Option α) (start : Nat) (bss : List (List Byte)) (i : Nat) : Option α :=
  (bss[i]?).bind (read (start + i))

theorem rowAt_cons_succ {α : Type} (read : Nat → List Byte → Option α) (start : Nat) (bs : List Byte) (bss : List (List Byte))
    (i : Nat) : rowAt read start (bs :: bss) (i + 1) = rowAt read (start + 1) bss i := by
  rw [rowAt, rowAt, List.getElem?_cons_succ, Nat.add_assoc, Nat.add_comm 1 i]

/-- The lowest faulty row is found. -/
theorem readAll_faulty {α : Type} {read : Nat → List Byte → Option α} {start k : Nat} {bss : List (List Byte)}
    (below : k < bss.length) (faulty : rowAt read start bss k = none)
    (sound : ∀ i < k, (rowAt read start bss i).isSome = true) : readAll read start bss = .faulty (start + k) := by
  induction bss generalizing start k with
  | nil => exact absurd below (Nat.not_lt_zero k)
  | cons bs bss ih =>
    cases k with
    | zero =>
      have unread : read start bs = none := faulty
      rw [readAll, unread]
      rfl
    | succ k =>
      obtain ⟨a, reads⟩ := Option.isSome_iff_exists.mp (sound 0 (Nat.succ_pos k))
      have reads : read start bs = some a := reads
      have rest := ih (start := start + 1) (Nat.lt_of_succ_lt_succ below) (by rwa [rowAt_cons_succ] at faulty) fun i hi => by
        have := sound (i + 1) (Nat.succ_lt_succ hi)
        rwa [rowAt_cons_succ] at this
      rw [readAll, reads]
      simp only [rest]
      congr 1
      omega

/-- With no fault, every row is read, in order. -/
theorem readAll_rows {α : Type} {read : Nat → List Byte → Option α} {start : Nat} {bss : List (List Byte)}
    (sound : ∀ i < bss.length, (rowAt read start bss i).isSome = true) :
    ∃ rs, readAll read start bss = .rows rs ∧ rs.length = bss.length ∧ ∀ i < bss.length, rs[i]? = rowAt read start bss i := by
  induction bss generalizing start with
  | nil => exact ⟨[], rfl, rfl, fun i below => absurd below (Nat.not_lt_zero i)⟩
  | cons bs bss ih =>
    obtain ⟨a, reads⟩ := Option.isSome_iff_exists.mp (sound 0 (Nat.succ_pos _))
    have reads : read start bs = some a := reads
    obtain ⟨rs, rest, length, each⟩ := ih (start := start + 1) fun i below => by
      have := sound (i + 1) (Nat.succ_lt_succ below)
      rwa [rowAt_cons_succ] at this
    refine ⟨a :: rs, by rw [readAll, reads]; simp only [rest], congrArg (· + 1) length, fun i below => ?_⟩
    cases i with
    | zero => exact reads.symm
    | succ i =>
      rw [rowAt_cons_succ, List.getElem?_cons_succ]
      exact each i (Nat.lt_of_succ_lt_succ below)

/-- The row of the split bytes. -/
theorem rowAt_splitRows {α : Type} (read : Nat → List Byte → Option α) (start size : Nat) {n i : Nat} (below : i < n)
    (bytes : List Byte) :
    rowAt read start (splitRows size n bytes) i = read (start + i) ((bytes.drop (i * size)).take size) := by
  rw [rowAt, getElem?_splitRows size below]
  rfl

/-- What the checks find, once the bytes and the place are right. -/
theorem checkRows_of_inRange {α : Type} (read : Nat → List Byte → Option α) {size tableSize : Nat} {start count : Byte}
    {bytes : List Byte} (length : bytes.length = count.toNat * size)
    (inRange : 0 < count.toNat ∧ start.toNat + count.toNat ≤ tableSize ∧ count.toNat * size ≤ 56) :
    checkRows read size tableSize start count bytes = readAll read start.toNat (splitRows size count.toNat bytes) :=
  (if_neg (not_not.mpr length)).trans (if_neg (by omega))

/-! ### The answers (R179) -/

/-- What a WRITE_ROWS does that its checks stop. -/
def stoppedBy {α : Type} (c : Instr) (tag : Byte) (found : RowCheck α) (s : State) : Prop := ∃ t, exec c s = .next t ∧
  match found with
  | .refused st => replied c tag 0x05 st 0xFF [] (s.took c) t
  | .faulty i => replied c tag 0x05 .refusedRow (byteOf i) [] (s.took c) t
  | .rows _ => True

/-- A WRITE_ROWS refused by its checks is answered by what they found, on the state as it was. -/
theorem answerRows_stopped {α : Type} {c : Instr} {tag : Byte} {found : RowCheck α} {write : List α → State → State}
    {s : State} (arm : exec c s = .next (answerRows c tag found write (s.took c))) : stoppedBy c tag found s := by
  cases found with
  | refused st => exact answered arm
  | faulty i => exact answered arm
  | rows rs => exact ⟨_, arm, trivial⟩

/-- Rows that pass are written, and the request is answered OK. -/
theorem answerRows_passed {α : Type} {c : Instr} {tag : Byte} {found : RowCheck α} {rs : List α}
    {write : List α → State → State} {s : State} (arm : exec c s = .next (answerRows c tag found write (s.took c)))
    (passes : found = .rows rs) : ∃ t, exec c s = .next t ∧ replied c tag 0x05 .ok 0xFF [] (write rs (s.took c)) t := by
  subst passes
  exact answered arm

section arms
variable (tag start count : Byte) (rows : List Byte) (s : State)

theorem exec_writeRowsMountLid : exec (.writeRowsMountLid tag start count rows) s =
    .next (answerRows (.writeRowsMountLid tag start count rows) tag (checkRows readMount 10 1 start count rows) writeMountLid
      (s.took (.writeRowsMountLid tag start count rows))) := rfl

theorem exec_writeRowsMountBase : exec (.writeRowsMountBase tag start count rows) s =
    .next (answerRows (.writeRowsMountBase tag start count rows) tag (checkRows readMount 10 1 start count rows) writeMountBase
      (s.took (.writeRowsMountBase tag start count rows))) := rfl

theorem exec_writeRowsPosture : exec (.writeRowsPosture tag start count rows) s =
    .next (answerRows (.writeRowsPosture tag start count rows) tag (checkRows readPostureRow 23 16 start count rows)
      (fun rs s => s.setPcl { s.pcl with pending := replaceRows s.pcl.pending start.toNat rs })
      (s.took (.writeRowsPosture tag start count rows))) := rfl

theorem exec_writeRowsRoute : exec (.writeRowsRoute tag start count rows) s =
    .next (answerRows (.writeRowsRoute tag start count rows) tag (checkRows readRouteEntry 16 12 start count rows)
      (fun rs s => s.setUfe { s.ufe with pending := replaceRows s.ufe.pending start.toNat rs })
      (s.took (.writeRowsRoute tag start count rows))) := rfl

theorem exec_writeRowsProfile : exec (.writeRowsProfile tag start count rows) s =
    .next (answerRows (.writeRowsProfile tag start count rows) tag (checkRows readProfileRow 10 6 start count rows)
      (fun rs s => s.setPch { s.pch with pending := replaceRows s.pch.pending start.toNat rs })
      (s.took (.writeRowsProfile tag start count rows))) := rfl

theorem exec_writeRowsAction : exec (.writeRowsAction tag start count rows) s =
    .next (answerRows (.writeRowsAction tag start count rows) tag (checkRows readActionLine 9 4 start count rows)
      (putLines start.toNat) (s.took (.writeRowsAction tag start count rows))) := rfl

end arms

/-! ### Action rows (R101, R106) -/

/-- Each line reads the row written for it, and any other line as before. -/
theorem get_putLines {i : Nat} {ls : List ActionLine} (fits : i + ls.length ≤ 4) (s : State) {j : Nat} (line : j < 4) :
    (putLines i ls s).alu.get j =
      if i ≤ j ∧ j < i + ls.length then (ls[j - i]?).getD (s.alu.get j) else s.alu.get j := by
  induction ls generalizing i s with
  | nil => simp [putLines]
  | cons l ls ih =>
    have fits' : i + 1 + ls.length ≤ 4 := by rw [List.length_cons] at fits; omega
    rw [putLines, ih fits', putLine_eq, Alu.get_put _ _ _ _ (by omega) line, List.length_cons]
    by_cases here : i = j
    · subst here
      rw [if_neg (by omega), if_pos rfl, if_pos (by omega), Nat.sub_self]
      rfl
    · rw [if_neg here]
      by_cases later : i + 1 ≤ j ∧ j < i + 1 + ls.length
      · obtain ⟨k, rfl⟩ := Nat.exists_eq_add_of_le later.1
        rw [if_pos later, if_pos (by omega), Nat.add_sub_cancel_left, Nat.add_assoc, Nat.add_sub_cancel_left, Nat.add_comm 1 k]
        rfl
      · rw [if_neg later, if_neg (by omega)]

/-- Records from line 1 on leave AL0 alone, and issue nothing. -/
theorem putLines_above {i : Nat} (above : 0 < i) (ls : List ActionLine) (s : State) :
    (putLines i ls s).alu.al0 = s.alu.al0 ∧ (putLines i ls s).inflight = s.inflight := by
  induction ls generalizing i s with
  | nil => exact ⟨rfl, rfl⟩
  | cons l ls ih =>
    have al0 : (s.alu.put i l).al0 = s.alu.al0 := by
      match i with
      | 1 | 2 | 3 | _ + 4 => rfl
    obtain ⟨kept_al0, silent⟩ := ih (Nat.succ_pos i) (putLine i l s)
    rw [putLines, kept_al0, silent, putLine_eq, al0, if_pos rfl, List.append_nil]
    exact ⟨rfl, rfl⟩

/-- Records written deliver the level of AL0 when they change it. -/
theorem putLines_inflight (i : Nat) (ls : List ActionLine) (s : State) : (putLines i ls s).inflight = s.inflight
    ++ if (putLines i ls s).alu.al0.level = s.alu.al0.level then [] else [.al0LevelDelivery (putLines i ls s).alu.al0.level] := by
  match i, ls with
  | _, [] => simp [putLines]
  | 0, l :: ls =>
    obtain ⟨al0, silent⟩ := putLines_above Nat.one_pos ls (putLine 0 l s)
    rw [putLines, al0, silent, putLine_eq]
  | i + 1, ls =>
    obtain ⟨al0, silent⟩ := putLines_above (Nat.succ_pos i) ls s
    rw [al0, silent, if_pos rfl, List.append_nil]

/-- Settles O55: the checks in their order, and what each table's owner writes. -/
theorem rowsWritten : Obligations.RowsWritten := by
  refine ⟨fun α read size tableSize start count bytes => ?_, fun tag start count rows s => ⟨?_, fun m passes => ?_,
    fun rs passes => ?_, fun rs passes => ?_, fun rs passes => ?_, fun rs passes => ?_⟩⟩
  · refine ⟨fun length => if_pos length, fun length out => (if_neg (not_not.mpr length)).trans (if_pos ?_),
      fun k length inRange below faulty sound => ?_, fun length inRange sound => ?_⟩
    · by_contra fits
      exact out (by omega)
    · refine (checkRows_of_inRange read length inRange).trans (readAll_faulty ?_ ?_ fun i hi => ?_)
      · rwa [splitRows_length]
      · rwa [rowAt_splitRows read _ _ below]
      · rw [rowAt_splitRows read _ _ (hi.trans below)]
        exact sound i hi
    · obtain ⟨rs, found, many, each⟩ := readAll_rows (read := read) (start := start.toNat)
        (bss := splitRows size count.toNat bytes) fun i hi => by
          rw [splitRows_length] at hi
          rw [rowAt_splitRows read _ _ hi]
          exact sound i hi
      rw [splitRows_length] at many each
      refine ⟨rs, (checkRows_of_inRange read length inRange).trans found, many, fun i hi => ?_⟩
      rw [each i hi, rowAt_splitRows read _ _ hi]
  · exact ⟨answerRows_stopped (exec_writeRowsMountLid tag start count rows s),
      answerRows_stopped (exec_writeRowsMountBase tag start count rows s),
      answerRows_stopped (exec_writeRowsPosture tag start count rows s),
      answerRows_stopped (exec_writeRowsRoute tag start count rows s),
      answerRows_stopped (exec_writeRowsProfile tag start count rows s),
      answerRows_stopped (exec_writeRowsAction tag start count rows s)⟩
  · exact ⟨answerRows_passed (exec_writeRowsMountLid tag start count rows s) passes,
      answerRows_passed (exec_writeRowsMountBase tag start count rows s) passes⟩
  · exact answerRows_passed (exec_writeRowsPosture tag start count rows s) passes
  · exact answerRows_passed (exec_writeRowsRoute tag start count rows s) passes
  · exact answerRows_passed (exec_writeRowsProfile tag start count rows s) passes
  · obtain ⟨t, arm, reply⟩ := answerRows_passed (exec_writeRowsAction tag start count rows s) passes
    obtain ⟨-, fits, -⟩ := checkRows_eq_rows passes
    exact ⟨t, _, arm, reply, (kept_took [.alu] s _).trans (putLines_kept _ rs _),
      fun i line => get_putLines fits (s.took _) line, putLines_inflight _ rs _⟩

end Sys2Proof.Machine

end

-- PROOFS: the requests that read, their data and their refusals (11.4, 11.7.5; O60).
section

namespace Sys2Proof.Machine

/-! ### READ_ROWS (R179) -/

/-- Rows are laid out one after another, each told its place. -/
theorem rowsBytes_eq {α : Type} (size : Nat) (enc : Nat → α → List Byte) (i : Nat) (rs : List α) :
    rowsBytes size enc i rs = ((rs.map fun r pos => enc pos r).zipIdx i).flatMap fun row => row.1 (row.2 * size) := by
  induction rs generalizing i with
  | nil => rfl
  | cons r rs ih =>
    rw [rowsBytes, ih]
    rfl

theorem encodeRows_eq {α : Type} (size : Nat) (enc : Nat → α → List Byte) (rows : List α) (start count : Nat) :
    encodeRows size enc rows start count
      = (((rows.map fun r pos => enc pos r).drop start).take count).zipIdx.flatMap fun row => row.1 (row.2 * size) := by
  rw [encodeRows, rowsBytes_eq, List.map_take, List.map_drop]

theorem covers_iff (t : TableShape) (bank : Byte) (start count : Nat) : t.covers bank.toNat start count = true ↔
    count ≠ 0 ∧ start + count ≤ t.rows ∧ count * t.size ≤ 56 ∧ (bank = 0 ∨ bank = 1 ∧ t.banked = true) := by
  have zero : bank.toNat = 0 ↔ bank = 0 := by bv_omega
  have one : bank.toNat = 1 ↔ bank = 1 := by bv_omega
  simp [TableShape.covers, zero, one, and_assoc]

/-- The tables of 11.7.3: the code, the row's size, the number of rows, and whether there are banks. -/
def tablesListed : List (Byte × Nat × Nat × Bool) :=
  [(0, 10, 1, false), (1, 10, 1, false), (2, 23, 16, true), (3, 16, 12, true), (4, 10, 6, true), (5, 9, 4, false)]

/-- A listed table is one of the six cases. -/
theorem listed_cases {table : Byte} {size rows : Nat} {banked : Bool} (listed : (table, size, rows, banked) ∈ tablesListed) :
    (table = 0 ∧ size = 10 ∧ rows = 1 ∧ banked = false) ∨ (table = 1 ∧ size = 10 ∧ rows = 1 ∧ banked = false)
      ∨ (table = 2 ∧ size = 23 ∧ rows = 16 ∧ banked = true) ∨ (table = 3 ∧ size = 16 ∧ rows = 12 ∧ banked = true)
      ∨ (table = 4 ∧ size = 10 ∧ rows = 6 ∧ banked = true) ∨ (table = 5 ∧ size = 9 ∧ rows = 4 ∧ banked = false) := by
  simpa [tablesListed] using listed

theorem tableShape_of_listed {table : Byte} {size rows : Nat} {banked : Bool}
    (listed : (table, size, rows, banked) ∈ tablesListed) : table.toNat < 6 ∧ tableShape table.toNat = some ⟨size, rows, banked⟩ := by
  rcases listed_cases listed with ⟨rfl, rfl, rfl, rfl⟩ | ⟨rfl, rfl, rfl, rfl⟩ | ⟨rfl, rfl, rfl, rfl⟩ | ⟨rfl, rfl, rfl, rfl⟩
    | ⟨rfl, rfl, rfl, rfl⟩ | ⟨rfl, rfl, rfl, rfl⟩
  all_goals exact ⟨by decide, rfl⟩

theorem tableShape_of_lt {n : Nat} (below : n < 6) : ∃ shape, tableShape n = some shape := by
  match n with
  | 0 | 1 | 2 | 3 | 4 | 5 => exact ⟨_, rfl⟩
  | m + 6 => omega

/-- The rows of a table, each laid out at a place; bank 0 is ACTIVE. -/
def tableRows (s : State) (table bank : Byte) : List (Nat → List Byte) := match table.toNat with
  | 0 => [fun _ => s.lsp.mount.bytes]
  | 1 => [fun _ => s.dlc.mount.bytes]
  | 2 => (if bank = 0 then s.pcl.active else s.pcl.pending).map fun r pos => r.bytes s.freeCount pos
  | 3 => (if bank = 0 then s.ufe.active else s.ufe.pending).map fun r pos => r.bytes s.freeCount pos
  | 4 => (if bank = 0 then s.pch.active else s.pch.pending).map fun r pos => r.bytes s.freeCount pos
  | _ => [s.alu.al0, s.alu.al1, s.alu.al2, s.alu.al3].map fun r pos => r.bytes s.freeCount pos

theorem tableData_eq {s : State} {table bank : Byte} {start count size rows : Nat} {banked : Bool}
    (listed : (table, size, rows, banked) ∈ tablesListed) (bank01 : bank = 0 ∨ bank = 1 ∧ banked = true) :
    tableData s table.toNat bank.toNat start count
      = (((tableRows s table bank).drop start).take count).zipIdx.flatMap fun row => row.1 (row.2 * size) := by
  rcases listed_cases listed with ⟨rfl, rfl, rfl, rfl⟩ | ⟨rfl, rfl, rfl, rfl⟩ | ⟨rfl, rfl, rfl, rfl⟩ | ⟨rfl, rfl, rfl, rfl⟩
    | ⟨rfl, rfl, rfl, rfl⟩ | ⟨rfl, rfl, rfl, rfl⟩ <;> rcases bank01 with rfl | ⟨rfl, -⟩ <;> exact encodeRows_eq ..

/-! ### Sizes of the status sections (11.7.5) -/

theorem length_fillers (free pos n : Nat) : (fillers free pos n).length = n := by
  simp [fillers]

/-- An absent field is as long as a present one. -/
theorem length_optional {α : Type} (free pos n : Nat) (value : Option α) {bytes : α → List Byte}
    (length : ∀ a, (bytes a).length = n) : (optional free pos n (value.map bytes)).length = n + 1 := by
  cases value with
  | none => exact congrArg (· + 1) (length_fillers free pos n)
  | some a => exact congrArg (· + 1) (length a)

theorem sections_length (s : State) (gaps : s.ufe.gaps.length = 15) (fwd : s.ufe.fwd.length = 12) :
    [1, 2, 3, 4, 5, 6, 7, 8, 9, 10, 11].map (fun n => (statusSection s n).map List.length)
      = [13, 29, 23, 6, 10, 8, 10, 17, 10, 37, 15].map some := by
  have sample (pos : Nat) (p : Option Sample) : (optional s.freeCount pos 8 (p.map Sample.statusBytes)).length = 9 :=
    length_optional _ pos 8 p fun _ => rfl
  have vector (pos : Nat) (f : Option Filtered) : (optional s.freeCount pos 6 (f.map fun f => leVec f.v)).length = 7 :=
    length_optional _ pos 6 f fun _ => rfl
  have byte (pos : Nat) (b : Option Byte) : (optional s.freeCount pos 1 (b.map fun b => [b])).length = 2 :=
    length_optional _ pos 1 b fun _ => rfl
  have stamp (t : Option PartTime) : (optional s.freeCount 5 2 (t.map fun t => leStamp (t.setWidth 16))).length = 3 :=
    length_optional _ 5 2 t fun _ => rfl
  have lines : (statusLines s).length = 13 := by
    rw [statusLines, List.length_append, sample]
    rfl
  have dock : (statusDock s).length = 29 := by
    unfold statusDock
    simp only [List.length_append, sample, byte]
    cases s.dlc.lastError <;> rfl
  have hinge : (statusHinge s).length = 23 := by
    unfold statusHinge
    simp only [List.length_append, vector]
    rfl
  have sleep : (statusSleep s).length = 10 := by
    unfold statusSleep
    simp only [List.length_append, stamp]
    rfl
  have upstream : (statusUpstream s).length = 37 := by
    unfold statusUpstream
    simp only [List.length_append, List.length_map, gaps, fwd]
    rfl
  have link : (statusLink s).length = 15 := by
    unfold statusLink
    simp only [List.length_append, byte]
    rfl
  simp only [List.map, statusSection, Option.map_some, lines, dock, hinge, sleep, upstream, link]
  rfl

/-! ### Layouts of the status sections -/

/-- Only the low 16 bits of a number stand in two bytes. -/
theorem le16_mod (n : Nat) : le16 (n % 65536) = le16 n := by
  unfold le16 byteOf
  congr 1
  · apply BitVec.eq_of_toNat_eq
    simp only [BitVec.toNat_ofNat]
    omega
  · congr 1
    apply BitVec.eq_of_toNat_eq
    simp only [BitVec.toNat_ofNat]
    omega

/-- A part time as a timestamp. -/
theorem leStamp_setWidth (t : PartTime) : leStamp (t.setWidth 16) = le16 t.toNat := by
  rw [leStamp, BitVec.toNat_setWidth]
  exact le16_mod t.toNat

theorem sample_bytes : Sample.statusBytes
    = fun p => leInt16 p.v.x ++ leInt16 p.v.y ++ leInt16 p.v.z ++ le16 p.time.toNat := by
  funext p
  rw [Sample.statusBytes, leStamp_setWidth]
  rfl

/-- The weight of a named bit. -/
def bit (b : Bool) (n : Nat) : Nat := if b then 2 ^ n else 0

/-- The bits named of a byte add up, as no two share a place. -/
theorem bits_of_line : ∀ a b c d : Bool, flag a ||| (flag b <<< 1) ||| (flag c <<< 2) ||| (flag d <<< 3)
    = byteOf (bit a 0 + bit b 1 + bit c 2 + bit d 3) := by decide

theorem bits_of_pair : ∀ a b : Bool, flag a ||| (flag b <<< 1) = byteOf (bit a 0 + bit b 1) := by decide

theorem isRunning_eq (t : Timer) : t.isRunning = decide (t ≠ .cancelled) := by
  cases t <;> simp [Timer.isRunning]

theorem held_eq (modifier : Byte) (codes : List Byte) :
    (modifier != 0 || !codes.isEmpty) = decide (modifier ≠ 0 ∨ codes ≠ []) := by
  cases codes <;> simp [bne_eq_decide]

theorem setWidth_eq_byteOf {n : Nat} (b : BitVec n) : b.setWidth 8 = byteOf b.toNat := (BitVec.ofNat_toNat ..).symm

/-- An index, or 0xFF for none. -/
def indexByte (i : Option Nat) : Byte := match i with
  | none => 0xFF
  | some n => byteOf n

theorem index_byte (i : Option Nat) : (i.map byteOf).getD 0xFF = indexByte i := by
  cases i <;> rfl

/-- The posture of the candidate's row, or 0xFF for none. -/
theorem posture_byte (active : List PostureRow) (candidate : Option Nat) :
    ((candidate.bind (rowPosture active)).map fun p => byteOf p.code).getD 0xFF
      = indexByte (candidate.bind fun i => (active[i]?).map fun r => r.posture.code) := by
  cases candidate with
  | none => rfl
  | some i => cases row : active[i]? <;> simp [rowPosture, row, indexByte]

/-- The reasons are held in PAUSED alone. -/
theorem reasons_eq (st : ChargerState) :
    st.reasons = match st with | .paused _ deny budget => byteOf (bit deny 0 + bit budget 1) | _ => 0 := by
  cases st with
  | paused => exact bits_of_pair _ _
  | _ => rfl

/-- The stage reported: of CHARGING, of PAUSED toward it, or of the fault. -/
theorem stage_byte (st : ChargerState) (free pos : Nat) : [(st.reportedStage.map byteOf).getD (Config.freeByte free pos)]
    = match st with
      | .charging k | .paused (.charging k) _ _ | .fault _ (some k) => [byteOf k]
      | _ => fillers free pos 1 := by
  rcases st with _ | _ | _ | _ | ⟨_ | _, _, _⟩ | ⟨_, _ | _⟩ <;> rfl

theorem advice_byte (advice : Option AdviceReason) : (advice.map fun a => byteOf (1 + a.code)).getD 0
    = match advice with | none => 0 | some .lidClosed => 1 | some .idle => 2 := by
  rcases advice with _ | _ | _ <;> rfl

theorem classCount_eq (cls : FrameClass) (q : List Frame) : classCount cls q = (q.filter fun f => f.cls = cls).length := by
  unfold classCount
  congr 2

/-- How long the oldest frame has waited, or all ones. -/
def waitedBytes (now : PartTime) (q : List Frame) : List Byte := match q with
  | [] => [0xFF, 0xFF, 0xFF, 0xFF]
  | f :: _ => le32 (now - f.time).toNat

theorem waited_bytes (now : PartTime) (q : List Frame) : le32 ((q.head?.map fun f => (now - f.time).toNat).getD 0xFFFFFFFF)
    = waitedBytes now q := by
  cases q with
  | nil => exact (by decide : le32 0xFFFFFFFF = [0xFF, 0xFF, 0xFF, 0xFF])
  | cons => rfl

/-- A section's snapshot tells nothing of the deliveries in flight. -/
theorem statusSection_took (s : State) (c : Instr) (n : Nat) : statusSection (s.took c) n = statusSection s n := rfl

theorem exec_getStatus_some {tag sect : Byte} {s : State} {data : List Byte} (known : statusSection s sect.toNat = some data) :
    exec (.getStatus tag sect) s
      = .next (answer (.getStatus tag sect) tag 0x02 .ok 0xFF data (s.took (.getStatus tag sect)).freeUsed) := by
  change execGetStatus tag sect s = _
  simp only [execGetStatus, statusSection_took, known]

theorem exec_getStatus_none {tag sect : Byte} {s : State} (unknown : statusSection s sect.toNat = none) :
    exec (.getStatus tag sect) s
      = .next (answer (.getStatus tag sect) tag 0x02 .badIndex 0xFF [] (s.took (.getStatus tag sect))) := by
  change execGetStatus tag sect s = _
  simp only [execGetStatus, statusSection_took, unknown]
  rfl

/-- READ_ROWS of a table: its rows when the checks pass, and a refusal otherwise. -/
theorem exec_readRows {tag table bank start count : Byte} {s : State} {shape : TableShape}
    (known : tableShape table.toNat = some shape) :
    let c : Instr := .readRows tag table bank start count
    (shape.covers bank.toNat start.toNat count.toNat = true → exec c s = .next (answer c tag 0x06 .ok 0xFF
      (tableData s table.toNat bank.toNat start.toNat count.toNat) (s.took c).freeUsed))
    ∧ (¬ shape.covers bank.toNat start.toNat count.toNat = true →
      exec c s = .next (answer c tag 0x06 .badIndex 0xFF [] (s.took c))) := by
  intro c
  have arm : exec c s = if shape.covers bank.toNat start.toNat count.toNat then
      .next (answer c tag 0x06 .ok 0xFF (tableData (s.took c) table.toNat bank.toNat start.toNat count.toNat)
        (s.took c).freeUsed)
      else .next (answerStatus c tag 0x06 .badIndex (s.took c)) := by
    change execReadRows tag table bank start count s = _
    simp only [execReadRows, known]
    rfl
  exact ⟨fun covers => arm.trans (if_pos covers), fun out => arm.trans (if_neg out)⟩

theorem exec_readRows_unknown {tag table bank start count : Byte} {s : State} (unknown : 6 ≤ table.toNat) :
    exec (.readRows tag table bank start count) s = .next (answer (.readRows tag table bank start count) tag 0x06 .badRequest
      0xFF [] (s.took (.readRows tag table bank start count))) := by
  have no_shape : tableShape table.toNat = none := by
    obtain ⟨m, is_m⟩ := Nat.exists_eq_add_of_le' unknown
    rw [is_m]
    rfl
  change execReadRows tag table bank start count s = _
  simp only [execReadRows, no_shape]
  rfl

/-- Settles O60: each request that reads, the sizes of the status sections, and their fields one section after another. -/
theorem readRequests : Obligations.ReadRequests := by
  refine ⟨fun tag sect table bank start count payload s => ⟨answered rfl, ?_, ?_, answered rfl, answered rfl⟩,
    fun s gaps fwd => ⟨fun n out => ?_, sections_length s gaps fwd⟩, fun s => ?_⟩
  · cases found : statusSection s sect.toNat with
    | none =>
      obtain ⟨t, arm, reply⟩ := answered (exec_getStatus_none (tag := tag) found)
      exact ⟨t, arm, fun _ other => (nomatch other), fun _ => reply⟩
    | some data =>
      obtain ⟨t, arm, reply⟩ := answered (exec_getStatus_some (tag := tag) found)
      exact ⟨t, arm, fun _ same => Option.some.inj same ▸ reply, fun other => (nomatch other)⟩
  · by_cases unknown : 6 ≤ table.toNat
    · obtain ⟨t, arm, reply⟩ := answered (exec_readRows_unknown (tag := tag) (bank := bank) (start := start) (count := count)
        (s := s) unknown)
      exact ⟨t, arm, fun _ => reply, fun size rows banked listed =>
        absurd (tableShape_of_listed listed).1 (Nat.not_lt.mpr unknown)⟩
    obtain ⟨shape, known⟩ := tableShape_of_lt (Nat.lt_of_not_le unknown)
    obtain ⟨covered, out⟩ := exec_readRows (tag := tag) (bank := bank) (start := start) (count := count) (s := s) known
    by_cases covers : shape.covers bank.toNat start.toNat count.toNat = true
    · obtain ⟨t, arm, reply⟩ := answered (covered covers)
      refine ⟨t, arm, fun out => absurd out unknown, fun size rows banked listed => ?_⟩
      obtain rfl := Option.some.inj (known.symm.trans (tableShape_of_listed listed).2)
      have inRange := (covers_iff ..).mp covers
      refine ⟨fun _ => ?_, fun out => absurd inRange out⟩
      rw [tableData_eq listed inRange.2.2.2] at reply
      exact reply
    · obtain ⟨t, arm, reply⟩ := answered (out covers)
      refine ⟨t, arm, fun out => absurd out unknown, fun size rows banked listed => ?_⟩
      obtain rfl := Option.some.inj (known.symm.trans (tableShape_of_listed listed).2)
      exact ⟨fun inRange => absurd ((covers_iff ..).mpr inRange) covers, fun _ => reply⟩
  · obtain rfl | out := out
    · rfl
    · obtain ⟨m, rfl⟩ := Nat.exists_eq_add_of_le' out
      rfl
  · intro bit free opt none? sample vector count
    refine ⟨?_, ?_, ?_, ?_, ?_, rfl, rfl, ?_, ?_, ?_, rfl⟩
    · change some (statusLines s) = _
      rw [statusLines, bits_of_line, sample_bytes]
      rfl
    · change some (statusDock s) = _
      rw [statusDock, held_eq, sample_bytes, setWidth_eq_byteOf]
      cases s.dlc.lastError <;> cases s.dlc.queue <;> rfl
    · change some (statusHinge s) = _
      rw [statusHinge, bits_of_pair]
      rfl
    · change some (statusRotation s) = _
      rw [statusRotation]
      cases s.rot.candidate <;> rfl
    · change some (statusPosture s) = _
      rw [statusPosture, index_byte, index_byte, posture_byte]
      rfl
    · change some (statusCharger s) = _
      have stage := stage_byte s.pch.state s.freeCount 2
      rw [statusCharger, reasons_eq, isRunning_eq]
      exact congrArg (fun stage => some (([byteOf s.pch.state.code, _] ++ stage) ++ _ ++ _ ++ _ ++ _ ++ _ ++ _ ++ _)) stage
    · change some (statusSleep s) = _
      rw [statusSleep, bits_of_pair, isRunning_eq, isRunning_eq, advice_byte]
      simp only [leStamp_setWidth]
      rfl
    · change some (statusUpstream s) = _
      rw [statusUpstream, classCount_eq, classCount_eq, classCount_eq, waited_bytes]
      rfl

end Sys2Proof.Machine

end

-- PROOFS: SET_PARAM and GET_PARAM (0.6, 11.4, 11.7.4; O59).
section

namespace Sys2Proof.Machine

/-! ### What a value does to each block

`Param.apply` by the blocks of its parameters: each function leaves its block alone under a parameter of another. -/

def Param.onLif (v : Int) (f : Lif) : Param → Lif
  | .frontHallStages => { f with frontHall := f.frontHall.restaged v.toNat }
  | .rearHallStages => { f with rearHall := f.rearHall.restaged v.toNat }
  | .dockContactStages => { f with dockContact := f.dockContact.restaged v.toNat }
  | .penContactStages => { f with penContact := f.penContact.restaged v.toNat }
  | .frontHallPolarity => { f with frontHall := f.frontHall.repolarised (v == 1) }
  | .rearHallPolarity => { f with rearHall := f.rearHall.repolarised (v == 1) }
  | .dockContactPolarity => { f with dockContact := f.dockContact.repolarised (v == 1) }
  | .penContactPolarity => { f with penContact := f.penContact.repolarised (v == 1) }
  | _ => f

def Param.onLsp (v : Int) (l : Lsp) : Param → Lsp
  | .samplePeriod => { l with samplePeriod := v.toNat }
  | _ => l

def Param.onDlc (v : Int) (d : Dlc) : Param → Dlc
  | .pollPeriod => { d with pollPeriod := v.toNat }
  | .answerTimeout => { d with answerTimeout := v.toNat }
  | .attachTimeout => { d with attachTimeout := v.toNat }
  | .missLimit => { d with missLimit := v.toNat }
  | .dockDefaultDraw => { d with defaultDraw := v.toNat, draw := { d with defaultDraw := v.toNat : Dlc }.budget }
  | _ => d

def Param.onHae (v : Int) (h : Hae) : Param → Hae
  | .filterShift => { h with filterShift := v.toNat }
  | .motionThreshold => { h with motionThreshold := v.toNat }
  | .motionIsActivity => { h with motionIsActivity := v == 1 }
  | .projectionMin => { h with projectionMin := v.toNat }
  | .hingeCal => { h with hingeCal := v }
  | .hingeDeadband => { h with hingeDeadband := v.toNat }
  | .faceT => { h with faceT := v.toNat }
  | _ => h

def Param.onRot (v : Int) (r : RotUnit) : Param → RotUnit
  | .rotMin => { r with rotMin := v.toNat }
  | .rotHyst => { r with rotHyst := v.toNat }
  | .rotDwell => { r with rotDwell := v.toNat }
  | _ => r

def Param.onSsu (v : Int) (u : Ssu) : Param → Ssu
  | .railLimit => { u with railLimit := v.toNat : Ssu }.recomputed
  | .railReserve => { u with railReserve := v.toNat : Ssu }.recomputed
  | .coilFull => { u with coilFull := v.toNat : Ssu }.recomputed
  | .dutyMax => { u with dutyMax := v.toNat : Ssu }.recomputed
  | .coilMin => { u with coilMin := v.toNat : Ssu }.recomputed
  | _ => u

def Param.onPch (v : Int) (c : Pch) : Param → Pch
  | .regInterval => { c with regInterval := v.toNat }
  | .probeMin => { c with probeMin := v.toNat }
  | .regBand => { c with regBand := v.toNat }
  | .regStep => { c with regStep := v.toNat }
  | .ocLimit => { c with ocLimit := v.toNat }
  | .rechargeInterval => { c with rechargeInterval := v.toNat }
  | _ => c

def Param.onSwa (v : Int) (a : Swa) : Param → Swa
  | .idleTimeout => { a with idleTimeout := v.toNat, idleTimer := if v.toNat = 0 then .cancelled else a.idleTimer }
  | .closedHold => { a with closedHold := v.toNat }
  | .wakeGuard => { a with wakeGuard := v.toNat }
  | .wakeMask => { a with wakeMask := BitVec.ofInt 8 v }
  | _ => a

/-- BUSY judged anew. -/
def Hlm.judged (h : Hlm) : Hlm := { h with busy := h.busyJudged }

def Param.onHlm (v : Int) (h : Hlm) : Param → Hlm
  | .busyOn => { h with busyOn := v.toNat, busyOff := min h.busyOff (v.toNat - 1) : Hlm }.judged
  | .busyOff => { h with busyOff := v.toNat : Hlm }.judged
  | _ => h

/-- The deliveries of a value: a draw that changes, and a supply that changes for the charger. -/
def Param.told (v : Int) (s : State) (p : Param) : List Instr :=
  (if (p.onDlc v s.dlc).draw = s.dlc.draw then [] else [.drawDelivery (p.onDlc v s.dlc).draw])
  ++ (if (p.onSsu v s.ssu).dutyCeiling = s.ssu.dutyCeiling ∧ (p.onSsu v s.ssu).budgetPause = s.ssu.budgetPause then []
      else [.ssuResultDelivery s.ssu.allowance (p.onSsu v s.ssu).dutyCeiling (p.onSsu v s.ssu).budgetPause])

/-- A supply parameter's recomputation keeps the allowance, which is not compared then. -/
theorem supplyEvent_told (u : Ssu) (s : State) (same : u.allowance = s.ssu.allowance) : supplyEvent u s = { s with
    ssu := u.recomputed
    inflight := s.inflight ++
      if u.recomputed.dutyCeiling = s.ssu.dutyCeiling ∧ u.recomputed.budgetPause = s.ssu.budgetPause then []
      else [.ssuResultDelivery s.ssu.allowance u.recomputed.dutyCeiling u.recomputed.budgetPause] } := by
  have kept_allowance : u.recomputed.allowance = s.ssu.allowance := same
  rw [supplyEvent_eq]
  simp only [kept_allowance, true_and]

theorem apply_eq (v : Int) (s : State) (p : Param) : p.apply v s = { s with
    lif := p.onLif v s.lif, lsp := p.onLsp v s.lsp, dlc := p.onDlc v s.dlc, hae := p.onHae v s.hae, rot := p.onRot v s.rot
    ssu := p.onSsu v s.ssu, pch := p.onPch v s.pch, swa := p.onSwa v s.swa, hlm := p.onHlm v s.hlm
    inflight := s.inflight ++ p.told v s } := by
  cases p with
  | dockDefaultDraw =>
    rw [Param.apply, recomputeDraw_eq]
    simp only [Param.told, Param.onSsu, and_self, if_true, List.append_nil]
    rfl
  | railLimit | railReserve | coilFull | dutyMax | coilMin =>
    refine (supplyEvent_told _ s ?_).trans ?_
    · rfl
    simp only [Param.told, Param.onDlc, if_true, List.nil_append]
    rfl
  | _ =>
    simp only [Param.told, Param.onDlc, Param.onSsu, and_self, if_true, List.append_nil]
    rfl

/-! ### The values in force -/

/-- The value that a parameter has of a value applied to it. -/
def Param.taken (v : Int) : Param → Int
  | .frontHallPolarity | .rearHallPolarity | .dockContactPolarity | .penContactPolarity | .motionIsActivity => ofFlag (v == 1)
  | .hingeCal => v
  | .wakeMask => (BitVec.ofInt 8 v).toNat
  | _ => v.toNat

/-- Each parameter reads the value applied to it and no other, but that BUSY_ON lowers BUSY_OFF. -/
theorem get_apply (v : Int) (s : State) (p q : Param) : q.get (p.apply v s) =
    if q = p then p.taken v
    else if p = .busyOn ∧ q = .busyOff then ((min s.hlm.busyOff (v.toNat - 1) : Nat) : Int) else q.get s := by
  rw [apply_eq]
  cases p <;> cases q <;> rfl

/-! ### Clamping (R177) -/

theorem clampInt_eq {lo hi : Int} (ordered : lo ≤ hi) (v : Int) : clampInt lo hi v = max lo (min v hi) := by
  unfold clampInt
  split_ifs <;> omega

theorem range_ordered (p : Param) : p.range.1 ≤ p.range.2 := by
  cases p <;> decide

/-- The value a SET_PARAM applies, as the chapters give it. -/
theorem clamp_eq {s : State} (busy : 2 ≤ s.hlm.busyOn) (v : Int) (p : Param) : p.clamp s v =
    if p = .idleTimeout then (if v ≤ 0 then 0 else max 5 (min v 3600))
    else if p = .busyOff then max 0 (min v ((s.hlm.busyOn : Int) - 1))
    else max p.range.1 (min v p.range.2) := by
  rw [Param.clamp, clampIdle, clampInt_eq (by decide), clampInt_eq (by omega), clampInt_eq (range_ordered p)]

/-- A value in range reads back as it is. -/
theorem taken_of_range {p : Param} {v : Int} (range : p.range.1 ≤ v ∧ v ≤ p.range.2) : p.taken v = v := by
  have flags (bit : 0 ≤ v ∧ v ≤ 1) : ofFlag (v == 1) = v := by
    obtain rfl | rfl : v = 0 ∨ v = 1 := by omega
    all_goals rfl
  have natural (positive : 0 ≤ v) : (v.toNat : Int) = v := Int.toNat_of_nonneg positive
  cases p with
  | frontHallPolarity | rearHallPolarity | dockContactPolarity | penContactPolarity | motionIsActivity => exact flags range
  | hingeCal => rfl
  | wakeMask =>
    obtain ⟨lo, hi⟩ : 0 ≤ v ∧ v ≤ 255 := range
    change ((BitVec.ofInt 8 v).toNat : Int) = v
    rw [BitVec.toNat_ofInt]
    omega
  | _ => exact natural (le_trans (by decide) range.1)

/-- The value applied reads back as it is. -/
theorem taken_clamp {s : State} (busy : 2 ≤ s.hlm.busyOn) (v : Int) (p : Param) : p.taken (p.clamp s v) = p.clamp s v := by
  unfold Param.clamp
  split
  next idle =>
    subst idle
    refine taken_of_range (p := .idleTimeout) ?_
    change 0 ≤ clampIdle v ∧ clampIdle v ≤ 3600
    rw [clampIdle, clampInt_eq (by decide)]
    split <;> omega
  split
  next off =>
    subst off
    exact Int.toNat_of_nonneg (clampInt_mem (by omega) v).1
  · exact taken_of_range (clampInt_mem (range_ordered p) v)

/-- ADJUSTED: the value was clamped, or a BUSY_ON lowers BUSY_OFF. -/
theorem adjusts_iff {p : Param} {s : State} {v : Int} :
    p.adjusts s v = true ↔ ¬ (p.clamp s v = v ∧ ¬ (p = .busyOn ∧ p.clamp s v ≤ s.hlm.busyOff)) := by
  rw [Param.adjusts, Bool.or_eq_true, Bool.and_eq_true, bne_iff_ne, beq_iff_eq, decide_eq_true_eq]
  tauto

theorem status_eq (p : Param) (s : State) (v : Int) : (if p.adjusts s v then Status.adjusted else .ok)
    = if p.clamp s v = v ∧ ¬ (p = .busyOn ∧ p.clamp s v ≤ s.hlm.busyOff) then .ok else .adjusted := by
  by_cases adjusts : p.adjusts s v = true
  · rw [if_pos adjusts, if_neg (adjusts_iff.mp adjusts)]
  · rw [if_neg adjusts, if_pos (not_not.mp (mt adjusts_iff.mpr adjusts))]

/-! ### What is set beside the value -/

/-- A line's agreement count restarts, and its level is kept (R3). -/
theorem onLif_filters (v : Int) (f : Lif) (p : Param) :
    let g := p.onLif v f
    g.frontHall = { f.frontHall with stages := g.frontHall.stages, activeLow := g.frontHall.activeLow
                                     count := if p ∈ [.frontHallStages, .frontHallPolarity] then 0 else f.frontHall.count }
    ∧ g.rearHall = { f.rearHall with stages := g.rearHall.stages, activeLow := g.rearHall.activeLow
                                     count := if p ∈ [.rearHallStages, .rearHallPolarity] then 0 else f.rearHall.count }
    ∧ g.dockContact = { f.dockContact with
        stages := g.dockContact.stages, activeLow := g.dockContact.activeLow
        count := if p ∈ [.dockContactStages, .dockContactPolarity] then 0 else f.dockContact.count }
    ∧ g.penContact = { f.penContact with
        stages := g.penContact.stages, activeLow := g.penContact.activeLow
        count := if p ∈ [.penContactStages, .penContactPolarity] then 0 else f.penContact.count } := by
  cases p <;> exact ⟨rfl, rfl, rfl, rfl⟩

/-- The draw of a dock under another default (R35). -/
theorem budget_eq (d : Dlc) : d.budget = match d.state with
    | .absent => 0
    | .unpowered => 0
    | .attaching => d.defaultDraw
    | _ => if d.statusSeen then d.statusDraw else d.defaultDraw := by
  unfold Dlc.budget
  cases d.state <;> rfl

theorem onDlc_eq (v : Int) (d : Dlc) (p : Param) : p.onDlc v d = { d with
    pollPeriod := (p.onDlc v d).pollPeriod, answerTimeout := (p.onDlc v d).answerTimeout
    attachTimeout := (p.onDlc v d).attachTimeout, missLimit := (p.onDlc v d).missLimit
    defaultDraw := (p.onDlc v d).defaultDraw
    draw := if p ≠ .dockDefaultDraw then d.draw else { d with defaultDraw := (p.onDlc v d).defaultDraw : Dlc }.budget } := by
  cases p <;> rfl

/-- A supply parameter makes one recomputation (R115). -/
theorem onSsu_supply (v : Int) (u : Ssu) {p : Param} (supply : p ∈ [.railLimit, .railReserve, .coilFull, .dutyMax, .coilMin]) :
    let new := p.onSsu v u
    new = { u with railLimit := new.railLimit, railReserve := new.railReserve, coilFull := new.coilFull
                   dutyMax := new.dutyMax, coilMin := new.coilMin : Ssu }.recomputed := by
  simp only [List.mem_cons, List.not_mem_nil, or_false] at supply
  obtain rfl | rfl | rfl | rfl | rfl := supply <;> rfl

theorem onSsu_other (v : Int) (u : Ssu) {p : Param} (other : p ∉ [.railLimit, .railReserve, .coilFull, .dutyMax, .coilMin]) :
    p.onSsu v u = u := by
  cases p with
  | railLimit | railReserve | coilFull | dutyMax | coilMin => exact absurd (by decide) other
  | _ => rfl

/-- IDLE_TIMEOUT of 0 cancels the idle timer (R152). -/
theorem onSwa_eq (v : Int) (a : Swa) (p : Param) : p.onSwa v a = { a with
    idleTimeout := (p.onSwa v a).idleTimeout, closedHold := (p.onSwa v a).closedHold, wakeGuard := (p.onSwa v a).wakeGuard
    wakeMask := (p.onSwa v a).wakeMask
    idleTimer := if p = .idleTimeout ∧ (p.onSwa v a).idleTimeout = 0 then .cancelled else a.idleTimer } := by
  cases p with
  | idleTimeout => simp [Param.onSwa]
  | _ => rfl

/-- BUSY judged by the two bounds (R174). -/
theorem judged_busy (h : Hlm) : (h.busyOn ≤ h.queue.length → h.judged.busy = true)
    ∧ (h.queue.length < h.busyOn → h.queue.length ≤ h.busyOff → h.judged.busy = false)
    ∧ (h.queue.length < h.busyOn → h.busyOff < h.queue.length → h.judged.busy = h.busy) :=
  ⟨fun long => if_pos long, fun short low => (if_neg (Nat.not_le.mpr short)).trans (if_pos low),
    fun short high => (if_neg (Nat.not_le.mpr short)).trans (if_neg (Nat.not_le.mpr high))⟩

theorem onHlm_busy (v : Int) (h : Hlm) {p : Param} (judges : p = .busyOn ∨ p = .busyOff) :
    let g := p.onHlm v h
    (g.busyOn ≤ h.queue.length → g.busy = true)
    ∧ (h.queue.length < g.busyOn → h.queue.length ≤ g.busyOff → g.busy = false)
    ∧ (h.queue.length < g.busyOn → g.busyOff < h.queue.length → g.busy = h.busy) := by
  obtain rfl | rfl := judges
  · exact judged_busy { h with busyOn := v.toNat, busyOff := min h.busyOff (v.toNat - 1) }
  · exact judged_busy { h with busyOff := v.toNat }

theorem exec_setParam {tag id : Byte} (value : BitVec 32) {p : Param} (known : paramOf id = some p) (s : State) :
    let c : Instr := .setParam tag id value
    let u := p.apply (p.clamp s value.toInt) (s.took c)
    exec c s = .next (answer c tag 0x03 (if p.adjusts s value.toInt then .adjusted else .ok) 0xFF (leInt32 (p.get u)) u) := by
  intro c u
  change execSetParam tag id value s = _
  simp only [execSetParam, known]
  rfl

/-- Settles O59: the value applied and read back, parameter by parameter, and each block's part in it. -/
theorem parametersSet : Obligations.ParametersSet := by
  refine ⟨fun tag id value s busy => ⟨fun unknown => ⟨?_, ?_⟩, fun p known => ⟨?_, ?_⟩⟩, fun tag id value p s known => ?_⟩
  · refine answered (u := s.took _) ?_
    change execSetParam tag id value s = _
    simp only [execSetParam, unknown]
    rfl
  · refine answered (u := s.took _) ?_
    change execGetParam tag id s = _
    simp only [execGetParam, unknown]
    rfl
  · have applied := clamp_eq busy value.toInt p
    have read : p.get (p.apply (p.clamp s value.toInt) (s.took (.setParam tag id value))) = p.clamp s value.toInt := by
      rw [get_apply, if_pos rfl, taken_clamp busy]
    have arm := exec_setParam (tag := tag) value known s
    simp only [status_eq, read] at arm
    obtain ⟨t, arm, reply⟩ := answered arm
    rw [applied] at reply read
    refine ⟨t, _, arm, reply, read, fun q differs not_lowered => ?_, fun on => ?_, ?_⟩
    · rw [get_apply, if_neg differs, if_neg not_lowered]
      rfl
    · subst on
      rw [← applied]
      change ((min s.hlm.busyOff ((Param.busyOn.clamp s value.toInt).toNat - 1) : Nat) : Int) = _
      have range : 2 ≤ Param.busyOn.clamp s value.toInt := (clampInt_mem (lo := 2) (hi := 8) (by decide) value.toInt).1
      omega
    · rw [apply_eq]
      exact ⟨rfl, rfl, rfl, rfl⟩
  · refine answered (u := s.took _) ?_
    change execGetParam tag id s = _
    simp only [execGetParam, known]
    rfl
  · intro c filter supply
    refine ⟨_, _, exec_setParam value known s, ⟨_, _, answer_replied ..⟩, ?_⟩
    rw [apply_eq]
    obtain ⟨front, rear, dock, pen⟩ := onLif_filters (p.clamp s value.toInt) s.lif p
    refine ⟨front, rear, dock, pen, ?_, ?_, ?_, ?_, rfl, rfl, onSsu_other _ s.ssu, fun changed => ?_, ?_, onSwa_eq _ s.swa p,
      rfl, ?_, fun not_on not_off => ?_, fun on_or_off => ?_, rfl, rfl, rfl, rfl⟩
    · cases p <;> rfl
    · have draw := budget_eq { s.dlc with defaultDraw := (p.onDlc (p.clamp s value.toInt) s.dlc).defaultDraw }
      have dlc := onDlc_eq (p.clamp s value.toInt) s.dlc p
      rw [draw] at dlc
      exact dlc
    · cases p <;> rfl
    · cases p <;> rfl
    · intro budget ceiling
      have ceiling_eq : coilCeilingOf budget s.ssu.allowance = ceiling := coilCeilingOf_eq budget s.ssu.allowance
      rw [← ceiling_eq]
      exact onSsu_supply _ s.ssu changed
    · cases p <;> rfl
    · cases p <;> rfl
    · cases p with
      | busyOn => exact absurd rfl not_on
      | busyOff => exact absurd rfl not_off
      | _ => rfl
    · exact onHlm_busy _ s.hlm on_or_off

end Sys2Proof.Machine

end

-- PROOFS: timers that are due, and expiries that no longer occur (0.9; O2).
section

namespace Sys2Proof.Machine

/-! ### Due timers -/

/-- The due test compares what has passed with what was set, over the half of the part time's range. -/
theorem due_started_iff {ms n : Nat} (now : PartTime) (hms : ms < 2 ^ 31) (hn : n < 2 ^ 31) :
    (Timer.running (now + BitVec.ofNat 32 ms)).due (now + BitVec.ofNat 32 n) = true ↔ ms ≤ n := by
  have passed : now + BitVec.ofNat 32 n - (now + BitVec.ofNat 32 ms) = BitVec.ofNat 32 n - BitVec.ofNat 32 ms := by
    rw [BitVec.add_comm now, BitVec.add_comm now]
    exact add_sub_add_right_eq_sub ..
  change decide ((now + BitVec.ofNat 32 n - (now + BitVec.ofNat 32 ms)).toNat < 2 ^ 31) = true ↔ ms ≤ n
  rw [passed, decide_eq_true_eq, BitVec.toNat_sub, BitVec.toNat_ofNat, BitVec.toNat_ofNat]
  omega

/-- A timer just started with at least a millisecond to run is not due. -/
theorem not_due_started {ms : Nat} (now : PartTime) (some_time : 1 ≤ ms) (below : ms < 2 ^ 31) :
    (Timer.running (now + BitVec.ofNat 32 ms)).due now = false := by
  have due := due_started_iff (n := 0) now below (by decide)
  rw [show now + BitVec.ofNat 32 0 = now from BitVec.add_zero now] at due
  exact Bool.eq_false_iff.mpr fun is_due => by have := due.mp is_due; omega

theorem not_due_cancelled (now : PartTime) : Timer.cancelled.due now = false := rfl

/-! ### An expiry that is not due changes nothing (log 5) -/

section notDue
variable {s : State}

theorem sampleTimerExpiry_of_notDue (rests : s.lsp.timer.due s.partTime = false) : exec .sampleTimerExpiry s = .next s :=
  if_neg (by simp [rests])

theorem pollTimerExpiry_of_notDue (rests : s.dlc.pollTimer.due s.partTime = false) : exec .pollTimerExpiry s = .next s :=
  if_neg (by simp [rests])

theorem attachTimerExpiry_of_notDue (rests : s.dlc.attachTimer.due s.partTime = false) : exec .attachTimerExpiry s = .next s :=
  if_neg (by simp [rests])

theorem lidFreshnessExpiry_of_notDue (rests : s.hae.lidTimer.due s.partTime = false) :
    exec (.freshnessTimerExpiry .lid) s = .next s := if_pos (by simp [rests])

theorem baseFreshnessExpiry_of_notDue (rests : s.hae.baseTimer.due s.partTime = false) :
    exec (.freshnessTimerExpiry .base) s = .next s := if_pos (by simp [rests])

theorem rotationDwellExpiry_of_notDue (rests : s.rot.timer.due s.partTime = false) :
    exec .rotationDwellExpiry s = .next s := by
  change execRotationDwellExpiry s = _
  cases candidate : s.rot.candidate <;> simp [execRotationDwellExpiry, candidate, rests]

theorem postureDwellExpiry_of_notDue (rests : s.pcl.timer.due s.partTime = false) :
    exec .postureDwellExpiry s = .next s := by
  change execPostureDwellExpiry s = _
  cases candidate : s.pcl.candidate <;> simp [execPostureDwellExpiry, candidate, rests]

theorem rechargeTimerExpiry_of_notDue (rests : s.pch.rechargeTimer.due s.partTime = false) :
    exec .rechargeTimerExpiry s = .next s := if_neg (by simp [rests])

theorem idleTimerExpiry_of_notDue (rests : s.swa.idleTimer.due s.partTime = false) : exec .idleTimerExpiry s = .next s :=
  if_neg (by simp [rests])

theorem closedHoldExpiry_of_notDue (rests : s.swa.holdTimer.due s.partTime = false) : exec .closedHoldExpiry s = .next s :=
  if_neg (by simp [rests])

theorem gapTimerExpiry_of_notDue (rests : s.hlm.gapTimer.due s.partTime = false) : exec .gapTimerExpiry s = .next s :=
  if_neg (by simp [rests])

theorem flushTimerExpiry_of_notDue {st : Stream} (rests : (s.ufe.fwdAt st.id).flush.due s.partTime = false) :
    exec (.flushTimerExpiry st) s = .next s := if_neg (by simp [rests])

end notDue

/-! ### Rotation (R70, R76) -/

/-- A rotation candidate that changes has its timer cancelled or started anew. -/
def RotUnit.replaced (now : PartTime) (u u' : RotUnit) : Prop := u'.candidate ≠ u.candidate → u'.timer.due now = false

theorem applyDecision_replaced (found : Option Rot) {s : State} (dwell : s.rot.rotDwell ≤ 2000) :
    s.rot.replaced s.partTime (applyDecision found s).rot := by
  cases found with
  | none => exact fun _ => rfl
  | some k =>
    unfold applyDecision
    dsimp only
    split
    · exact fun changed => absurd rfl changed
    unfold startCandidate
    split
    · exact fun _ => rfl
    next waits => exact fun _ => not_due_started s.partTime (Nat.one_le_iff_ne_zero.mpr waits) (by omega)

theorem decideRotation_replaced (v : Vec3) {s : State} (dwell : s.rot.rotDwell ≤ 2000) :
    s.rot.replaced s.partTime (decideRotation v s).rot := by
  unfold decideRotation
  split
  · exact applyDecision_replaced _ (s := s.setRot { s.rot with angle := some (direction v.y v.x) }) dwell
  · exact fun _ => rfl

/-! ### Posture (R86, R94, R95) -/

/-- The posture of the candidate. -/
def Pcl.awaited (p : Pcl) : Option Posture := p.candidate.map fun i => (p.rowAt i).posture

/-- A posture candidate whose posture changes has its timer cancelled or started anew. -/
def Pcl.replaced (now : PartTime) (p p' : Pcl) : Prop := p'.awaited ≠ p.awaited → p'.timer.due now = false

theorem rowAt_dwell {p : Pcl} (dwells : ∀ r ∈ p.active, r.dwell ≤ 5000) (i : Nat) : (p.rowAt i).dwell ≤ 5000 := by
  unfold Pcl.rowAt
  rw [List.getD_eq_getElem?_getD]
  cases row : p.active[i]? with
  | none => decide
  | some r => exact dwells r (List.mem_of_getElem? row)

theorem startPosture_notDue (i : Nat) {s : State} (dwells : ∀ r ∈ s.pcl.active, r.dwell ≤ 5000) :
    (startPosture i s).pcl.timer.due s.partTime = false := by
  unfold startPosture
  split
  · rfl
  next waits =>
    have bound := rowAt_dwell dwells i
    exact not_due_started s.partTime (Nat.one_le_iff_ne_zero.mpr waits) (by omega)

theorem candidateCase_replaced (i : Nat) {s : State} (dwells : ∀ r ∈ s.pcl.active, r.dwell ≤ 5000) :
    s.pcl.replaced s.partTime (candidateCase i s).pcl := by
  by_cases same : ∃ j, s.pcl.candidate = some j ∧ (s.pcl.rowAt j).posture = (s.pcl.rowAt i).posture
  · obtain ⟨j, candidate, posture⟩ := same
    rw [candidateCase_of_same candidate posture]
    refine fun changed => absurd ?_ changed
    rw [Pcl.awaited, Pcl.awaited, candidate]
    exact congrArg some posture.symm
  · rw [candidateCase_of_other fun j candidate posture => same ⟨j, candidate, posture⟩]
    exact fun _ => startPosture_notDue i dwells

theorem samePosture_timer (i : Nat) (s : State) : (samePosture i s).pcl.timer = .cancelled := by
  simp only [samePosture]
  split <;> rfl

theorem evaluate_replaced {s : State} (dwells : ∀ r ∈ s.pcl.active, r.dwell ≤ 5000) :
    s.pcl.replaced s.partTime (evaluate s).pcl := by
  cases found : matchedRow s.pcl with
  | none =>
    rw [evaluate_of_noMatch found]
    exact fun _ => rfl
  | some i =>
    rw [evaluate_of_match found]
    split
    · rw [Pcl.replaced, samePosture_timer]
      exact fun _ => rfl
    · exact candidateCase_replaced i (s := s.setPcl { s.pcl with noMatch := false }) dwells

/-- With no candidate before it, an evaluation leaves no timer that is due: it leaves no candidate, or starts one's dwell. -/
theorem evaluate_notDue {s : State} (dwells : ∀ r ∈ s.pcl.active, r.dwell ≤ 5000) (no_candidate : s.pcl.candidate = none)
    (cancelled : s.pcl.timer = .cancelled) : (evaluate s).pcl.timer.due s.partTime = false := by
  by_cases same : (evaluate s).pcl.awaited = s.pcl.awaited
  · have paired := evaluate_paired (Pcl.paired_of_cancelled no_candidate cancelled)
    have none_left : (evaluate s).pcl.candidate = none := by simpa [Pcl.awaited, no_candidate] using same
    have stopped : ¬ (evaluate s).pcl.timer.isRunning = true := fun running => by
      simpa [none_left] using paired.mpr running
    cases timer : (evaluate s).pcl.timer with
    | cancelled => rfl
    | running expiry => exact absurd (congrArg Timer.isRunning timer) stopped
  · exact evaluate_replaced dwells same

theorem commitPostures_notDue {s : State} (dwells : ∀ r ∈ s.pcl.pending, r.dwell ≤ 5000) :
    (commitPostures s).pcl.timer.due s.partTime = false :=
  evaluate_notDue (s := publishRow (remappedRow { s.pcl.cancel with active := s.pcl.pending })
    (s.setPcl { s.pcl.cancel with active := s.pcl.pending })) dwells rfl rfl

/-! ### Activity (R141, R151) -/

theorem occurred_notDue (wake : Option WakeReason) (act : Activity) {s : State} (timeout : s.swa.idleTimeout ≤ 3600) :
    (occurred wake (some act) s).swa.idleTimer.due s.partTime = false := by
  rw [occurred_swa]
  change (if s.swa.idleTimeout = 0 then Timer.cancelled
    else .running (s.partTime + BitVec.ofNat 32 (s.swa.idleTimeout * 1000))).due s.partTime = false
  split
  · rfl
  · exact not_due_started s.partTime (by omega) (by omega)

/-- The occurrences that are activity events. -/
theorem exec_activity {c : Instr} (s : State) (acts : c ∈ [Instr.keyOccurrence, .pointerOccurrence, .dockAttach, .dockDetach,
    .rotationOccurrence, .penInsertedOccurrence, .penRemovedOccurrence, .lidMotionOccurrence true]) :
    ∃ wake act, exec c s = .next (occurred wake (some act) (s.took c)) := by
  simp only [List.mem_cons, List.not_mem_nil, or_false] at acts
  obtain rfl | rfl | rfl | rfl | rfl | rfl | rfl | rfl := acts
  · exact ⟨some .key, .key, rfl⟩
  · exact ⟨some .pointer, .pointer, rfl⟩
  · exact ⟨some .dockAttached, .dock, rfl⟩
  · exact ⟨some .dockDetached, .dock, rfl⟩
  · exact ⟨none, .rotation, rfl⟩
  · exact ⟨some .penInserted, .pen, rfl⟩
  · exact ⟨some .penRemoved, .pen, rfl⟩
  · exact ⟨some .motion, .motion, rfl⟩

/-! ### The lid port (R10 to R12) -/

theorem turnOff_timer {s : State} (on : s.lsp.port ≠ .off) : (turnOff s).lsp.timer = .cancelled := by
  rw [turnOff, if_neg on]
  rfl

/-- An answer keeps the lid port, and the part time. -/
theorem sampleTimerExpiry_of_replied {c : Instr} {tag code : Byte} {status : Status} {row : Byte} {data : List Byte} {u t : State}
    (reply : replied c tag code status row data u t) (rests : u.lsp.timer.due u.partTime = false) :
    exec .sampleTimerExpiry t = .next t := by
  obtain ⟨frame, -, -⟩ := reply
  obtain ⟨-, lsp, -⟩ := id frame
  refine sampleTimerExpiry_of_notDue ?_
  rw [lsp (by simp), frame.partTime_eq]
  exact rests

/-- An answer keeps the classifier, and the part time. -/
theorem postureDwellExpiry_of_replied {c : Instr} {tag code : Byte} {status : Status} {row : Byte} {data : List Byte} {u t : State}
    (reply : replied c tag code status row data u t) (rests : u.pcl.timer.due u.partTime = false) :
    exec .postureDwellExpiry t = .next t := by
  obtain ⟨frame, -, -⟩ := reply
  obtain ⟨-, -, -, -, -, pcl, -⟩ := id frame
  refine postureDwellExpiry_of_notDue ?_
  rw [pcl (by simp), frame.partTime_eq]
  exact rests

/-- An input is recorded with the rows and the candidate as they were, and evaluated. -/
theorem exec_input_recorded {c : Instr} {time : PartTime} (s : State) (input : (∃ h q f, c = .hingeDelivery h q f)
      ∨ (∃ st, c = .pclDockStateDelivery st) ∨ (∃ hall a, c = .pclHallEvent hall a time)) :
    ∃ p : Pcl, exec c s = .next (evaluate ((s.took c).setPcl p)) ∧ p.active = s.pcl.active ∧ p.candidate = s.pcl.candidate := by
  obtain ⟨_, _, _, rfl⟩ | ⟨_, rfl⟩ | ⟨_ | _, _, rfl⟩ := input
  all_goals exact ⟨_, rfl, rfl, rfl⟩

/-! ### Every timer -/

/-- Settles O2: the due test, each expiry that is not due, and what cancels a timer or starts it anew. -/
theorem expiriesDue : Obligations.ExpiriesDue := by
  refine ⟨⟨fun now ms n hms hn => due_started_iff now hms hn, not_due_cancelled⟩, fun c timer s timed rests => ?_,
    fun tag s some_period bound => ⟨?_, fun on => ?_⟩, fun v s dwell => ?_, fun c time s input dwells => ?_,
    fun tag s used dwells => ?_, fun c s acts timeout => ?_⟩
  · obtain listed | ⟨st, rfl, rfl⟩ := timed
    · simp only [List.mem_cons, Prod.mk.injEq, List.not_mem_nil, or_false] at listed
      obtain ⟨rfl, rfl⟩ | ⟨rfl, rfl⟩ | ⟨rfl, rfl⟩ | ⟨rfl, rfl⟩ | ⟨rfl, rfl⟩ | ⟨rfl, rfl⟩ | ⟨rfl, rfl⟩ | ⟨rfl, rfl⟩ | ⟨rfl, rfl⟩
        | ⟨rfl, rfl⟩ | ⟨rfl, rfl⟩ := listed
      · exact sampleTimerExpiry_of_notDue rests
      · exact pollTimerExpiry_of_notDue rests
      · exact attachTimerExpiry_of_notDue rests
      · exact lidFreshnessExpiry_of_notDue rests
      · exact baseFreshnessExpiry_of_notDue rests
      · exact rotationDwellExpiry_of_notDue rests
      · exact postureDwellExpiry_of_notDue rests
      · exact rechargeTimerExpiry_of_notDue rests
      · exact idleTimerExpiry_of_notDue rests
      · exact closedHoldExpiry_of_notDue rests
      · exact gapTimerExpiry_of_notDue rests
    · exact flushTimerExpiry_of_notDue rests
  · obtain ⟨t, arm, reply⟩ := answered (c := .restartPortLid tag) (s := s) rfl
    have below : s.lsp.samplePeriod < 2 ^ 31 := by omega
    exact ⟨t, arm, sampleTimerExpiry_of_replied reply (not_due_started s.partTime some_period below)⟩
  · have arm : exec (.portOff tag 0) s = .next (answerOk (.portOff tag 0) tag 0x0D (turnOff (s.took (.portOff tag 0)))) := rfl
    obtain ⟨t, arm, reply⟩ := answered arm
    have cancelled := turnOff_timer (s := s.took (.portOff tag 0)) on
    exact ⟨t, arm, sampleTimerExpiry_of_replied reply (by rw [cancelled]; rfl)⟩
  · refine ⟨_, rfl, fun changed => rotationDwellExpiry_of_notDue ?_⟩
    revert changed
    split
    · rw [(decideRotation_kept v (s.took (.lidVectorDelivery v))).partTime_eq]
      exact decideRotation_replaced v (s := s.took (.lidVectorDelivery v)) dwell
    · exact fun changed => absurd rfl changed
  · intro posture
    obtain ⟨p, arm, active, candidate⟩ := exec_input_recorded s input
    have awaited : p.awaited = s.pcl.awaited := by simp only [Pcl.awaited, Pcl.rowAt, active, candidate]
    refine ⟨_, arm, fun changed => postureDwellExpiry_of_notDue ?_⟩
    rw [(evaluate_kept _).partTime_eq]
    refine evaluate_replaced (s := (s.took c).setPcl p) (active ▸ dwells) ?_
    exact awaited ▸ changed
  · obtain ⟨t, arm, reply⟩ := answered (c := .commitPosture tag) (s := s) (if_pos (List.any_eq_true.mpr used))
    refine ⟨t, arm, postureDwellExpiry_of_replied reply ?_⟩
    rw [(commitPostures_kept _).partTime_eq]
    exact commitPostures_notDue (s := s.took (.commitPosture tag)) dwells
  · obtain ⟨wake, act, arm⟩ := exec_activity s acts
    have frame := occurred_kept wake (some act) (s.took c)
    refine ⟨_, arm, idleTimerExpiry_of_notDue ?_⟩
    rw [frame.partTime_eq]
    exact occurred_notDue wake act (s := s.took c) timeout

end Sys2Proof.Machine

end
